-- ==== Sys2Proof/Word.lean ====
section
/-! DEFINITION. The word types of the ZT-610: what the spec treats as bits. Samples, levels, times and
counts are integers and stand as `Int` and `Nat` where they are used. -/

namespace Sys2Proof

/-- A side byte (R161), a message byte (R191). -/
abbrev Byte := BitVec 8

/-- An input frame index or a stamp: a 16-bit count taken modulo 65,536 (R1, R102). -/
abbrev Index := BitVec 16

/-- The 256 frame bits of a link frame (R189). Frame bit `i`, in sending order, is the `i`-th most
significant bit of the word (log 11). -/
abbrev FrameBits := BitVec 256

end Sys2Proof
end

