-- ==== Sys2Proof/Syntax.lean ====
section
/-! DEFINITION. The commands of the ZT-610: one constructor of `Instr` per row of the opcode table, and the
operand types they need. -/

namespace Sys2Proof

/-- Strings 1 to 6 (00_scope.md, Conventions). -/
inductive StringNo
  | s1 | s2 | s3 | s4 | s5 | s6
  deriving DecidableEq, Repr

/-- One thing for each of the six strings. -/
structure Six (α : Type) where
  x1 : α
  x2 : α
  x3 : α
  x4 : α
  x5 : α
  x6 : α
  deriving DecidableEq, Repr

/-- The steps that a string's own arrivals raise: those of the table, and the hand-over of a hit, jump or search-pass report
to the note engine (R53, R68, R69). -/
inductive Event
  | report | release | strikeDeadlineExpiry | dampExit | staleCrossing | lockLoss | lock
  | faultEntry | faultWaitEnd | recovery
  deriving DecidableEq, Repr

/-- One block's part of the work on an accepted pickup frame. Where the spec lets several blocks take one
frame in either order (R1, R4, R7, R10, R22, R27, R31, R42, R54, R69, R103), a list of these says the order. -/
inductive FrameAct
  /-- The canceller takes the frame (R4 to R6). -/
  | cancel
  /-- The frame record is formed and offered to the elastic store (R10, R11). -/
  | store
  /-- The envelope unit of a string takes its cancelled sample (R15). -/
  | envelope (n : StringNo)
  /-- The period tracker of a string takes its cancelled sample (R40). -/
  | tracker (n : StringNo)
  /-- The fault monitor of a string takes its raw sample and flag (R132). -/
  | monitor (n : StringNo)
  /-- A due event of a string is taken. -/
  | take (n : StringNo) (e : Event)
  /-- Every due event of a string is taken. -/
  | settle (n : StringNo)
  deriving DecidableEq, Repr

/-- The order in which the blocks take one pickup frame. `before` goes to what an earlier frame left in process, ahead of
this frame time. `acts` is done first on the frame itself, then whatever is left, in the canonical order; with `pause` what
`acts` does not name is left in process, so that the commands that follow fall inside the frame (R14, R103). With `hold` the
events that are due at the end stay due. With `recordLater` a frame record that `acts` has not offered waits until the next
frame time has been judged (R156). For a string of `entryFirst` what an earlier frame left, its tracker's sample and the events
that are due, waits until this frame time has been judged, but for what `before` takes: an entry to HUNT then comes first (R69,
R103). With `hold` too, and a frame that is discarded, it waits on. -/
structure FrameOrder where
  before : List FrameAct := []
  acts : List FrameAct := []
  pause : Bool := false
  hold : Bool := false
  recordLater : Bool := false
  entryFirst : Six Bool := ⟨false, false, false, false, false, false⟩
  deriving DecidableEq, Repr

/-- The order of the two answers a synth forward frame asks for (R166), and whether the completion of R124
is left to its own step. -/
structure SynthOrder where
  transmitterFirst : Bool := false
  hold : Bool := false
  deriving DecidableEq, Repr

/-- What may reach the part while a reset is under way (R127, R187): a pickup frame time, or a due event of a string. -/
inductive Arrival
  | frame (frame : Option FrameBits) (order : FrameOrder)
  | event (n : StringNo) (e : Event)
  deriving DecidableEq, Repr

/-- How a reset's blocks stand to its answer (R127, R187): the strings whose blocks take the reset after the answer has been
built, and what arrives, in order, between the reset of the other blocks and the answer. -/
structure ResetOrder where
  late : Six Bool := ⟨false, false, false, false, false, false⟩
  meanwhile : List Arrival := []
  deriving DecidableEq, Repr

/-- The order of the effects of a synth return frame: whether relay-up takes an all-call before the
management unit (R172), how a reset it carries is taken, and whether an entry of the receiver to HUNT or
SYNC is left to its own step. -/
structure ReturnOrder where
  relayFirst : Bool := false
  reset : ResetOrder := {}
  hold : Bool := false
  deriving DecidableEq, Repr

/-- The commands: one constructor per row of spec/opcode_table.json. -/
inductive Instr
  | powerOn
  | pickupForwardFrame (frame : Option FrameBits) (order : FrameOrder)
  | lock (n : StringNo)
  | lockLoss (n : StringNo)
  | staleCrossing (n : StringNo)
  | strikeDeadlineExpiry (n : StringNo)
  | release (n : StringNo)
  | faultEntry (n : StringNo)
  | faultWaitEnd (n : StringNo)
  | recovery (n : StringNo)
  | dampExit (n : StringNo)
  | pickupHuntEntry
  | pickupSyncEntry
  | converterMessage (message : List Byte)
  | synthForwardFrame (order : SynthOrder)
  | transmissionComplete
  | synthReturnFrame (frame : FrameBits) (order : ReturnOrder)
  | synthReceiverHuntEntry
  | synthReceiverSyncEntry
  | relayUpMessage (message : List Byte)
  | clockLost
  | clockReturn
  | requestBadKind (kind : Byte) (body : List Byte)
  | put (body : List Byte)
  | get (body : List Byte)
  | mode (body : List Byte)
  | clear (body : List Byte)
  | damp (body : List Byte)
  | status (body : List Byte)
  | counters (body : List Byte)
  | resetTracking (tag : Byte) (order : ResetOrder)
  | resetFull (tag : Byte) (order : ResetOrder)
  deriving DecidableEq, Repr

/-- The row of the opcode table a command belongs to, as the table spells it. -/
def Instr.mnemonic : Instr → String
  | .powerOn => "POWER_ON"
  | .pickupForwardFrame _ _ => "PICKUP_FORWARD_FRAME"
  | .lock _ => "LOCK"
  | .lockLoss _ => "LOCK_LOSS"
  | .staleCrossing _ => "STALE_CROSSING"
  | .strikeDeadlineExpiry _ => "STRIKE_DEADLINE_EXPIRY"
  | .release _ => "RELEASE"
  | .faultEntry _ => "FAULT_ENTRY"
  | .faultWaitEnd _ => "FAULT_WAIT_END"
  | .recovery _ => "RECOVERY"
  | .dampExit _ => "DAMP_EXIT"
  | .pickupHuntEntry => "PICKUP_HUNT_ENTRY"
  | .pickupSyncEntry => "PICKUP_SYNC_ENTRY"
  | .converterMessage _ => "CONVERTER_MESSAGE"
  | .synthForwardFrame _ => "SYNTH_FORWARD_FRAME"
  | .transmissionComplete => "TRANSMISSION_COMPLETE"
  | .synthReturnFrame _ _ => "SYNTH_RETURN_FRAME"
  | .synthReceiverHuntEntry => "SYNTH_RECEIVER_HUNT_ENTRY"
  | .synthReceiverSyncEntry => "SYNTH_RECEIVER_SYNC_ENTRY"
  | .relayUpMessage _ => "RELAY_UP_MESSAGE"
  | .clockLost => "CLOCK_LOST"
  | .clockReturn => "CLOCK_RETURN"
  | .requestBadKind _ _ => "REQUEST_BAD_KIND"
  | .put _ => "PUT"
  | .get _ => "GET"
  | .mode _ => "MODE"
  | .clear _ => "CLEAR"
  | .damp _ => "DAMP"
  | .status _ => "STATUS"
  | .counters _ => "COUNTERS"
  | .resetTracking _ _ => "RESET_TRACKING"
  | .resetFull _ _ => "RESET_FULL"

/-- The message bytes a command carries: a whole message, or a request's body. -/
def Instr.payload : Instr → List Byte
  | .converterMessage m | .relayUpMessage m => m
  | .requestBadKind _ b | .put b | .get b | .mode b | .clear b | .damp b | .status b | .counters b => b
  | _ => []

end Sys2Proof
end

