-- ==== Sys2Proof/Decode.lean ====
section
/-! DEFINITION. The command a word of the opcode table spells. No row of spec/opcode_table.json gives bits, so
no word spells a command. (The requests' own bytes are read by Machine/Operands.lean.) -/

namespace Sys2Proof

/-- The command that a word of the table spells: none, since no row of the table has bits (log 10). -/
def decodeTableWord (_nbits _w : Nat) : Option Instr := none

end Sys2Proof
end

