-- ==== Sys2Proof/Config.lean ====
section
/-! DEFINITION. What the spec leaves open: the free values. -/

namespace Sys2Proof

/-- The frame bits a receiver holds after a frame time in which the pickup forward line carried no edges.
R162 says such a frame is judged as one with bad sync, and that a frame with bad sync may be accepted and
handed on whole; it does not say what the bits are. The argument is the count of free values drawn so far.
No body: nothing can be proved of a value of it (log 4, DESIGN CHOICE, safe). -/
opaque Config.silentFrame : Nat → FrameBits

end Sys2Proof
end

