-- ==== Sys2Proof/Machine/State.lean ====
section
/-! DEFINITION. The state of the ZT-610: everything the spec gives the part, as plain data, and the state after
power-on. INVENTORY.md lists the items with their rules; the fields marked "the model's own" are not the spec's. -/

namespace Sys2Proof

/-- A string's number, 1 to 6. -/
def StringNo.num : StringNo → Nat
  | .s1 => 1 | .s2 => 2 | .s3 => 3 | .s4 => 4 | .s5 => 5 | .s6 => 6

/-- Strings 1 to 6 in order. -/
def StringNo.all : List StringNo := [.s1, .s2, .s3, .s4, .s5, .s6]

/-- The thing of one string. -/
def Six.get {α : Type} (v : Six α) : StringNo → α
  | .s1 => v.x1 | .s2 => v.x2 | .s3 => v.x3 | .s4 => v.x4 | .s5 => v.x5 | .s6 => v.x6

/-- One string's thing replaced. -/
def Six.set {α : Type} (v : Six α) (n : StringNo) (a : α) : Six α :=
  match n with
  | .s1 => { v with x1 := a } | .s2 => { v with x2 := a } | .s3 => { v with x3 := a }
  | .s4 => { v with x4 := a } | .s5 => { v with x5 := a } | .s6 => { v with x6 := a }

/-- The thing of each string made from its number. -/
def Six.ofFn {α : Type} (f : StringNo → α) : Six α := ⟨f .s1, f .s2, f .s3, f .s4, f .s5, f .s6⟩

/-- The same thing for each string. -/
def Six.same {α : Type} (a : α) : Six α := ⟨a, a, a, a, a, a⟩

/-- The things of strings 1 to 6, in order. -/
def Six.toList {α : Type} (v : Six α) : List α := [v.x1, v.x2, v.x3, v.x4, v.x5, v.x6]

namespace Machine

/-! ### Tables (R179, R180, R84, R89, R3) -/

/-- Output modes (R113). -/
inductive OutputMode
  | active | frozen | muted
  deriving DecidableEq, Repr

/-- Sample modes (R9). -/
inductive SampleMode
  | raw | cancelled | zero
  deriving DecidableEq, Repr

/-- Note modes of a zone (R84). -/
inductive ZoneMode
  | bend | step
  deriving DecidableEq, Repr

/-- The device record (R180). The four flags are the notice mask's enables (R117). -/
structure DeviceRecord where
  address : Nat
  fA : Nat
  fs : Nat
  faultNotices : Bool
  recoverNotices : Bool
  slipNotices : Bool
  linkNotices : Bool
  deriving DecidableEq, Repr

/-- A string record (R180). A zone head of `none` is END. -/
structure StringRecord where
  enable : Bool
  outputMode : OutputMode
  sampleMode : SampleMode
  attach : Nat
  releaseThreshold : Nat
  releaseHold : Nat
  decayShift : Nat
  velocitySpan : Nat
  lowPassShift : Nat
  hysteresisShift : Nat
  tolerance : Nat
  loopShift : Nat
  confirm : Nat
  strikeDeadline : Nat
  zoneHead : Option (Fin 32)
  noteHysteresis : Nat
  reattackRatio : Nat
  reattackGuard : Nat
  glideStep : Nat
  glideInterval : Nat
  pressInterval : Nat
  clipLevel : Nat
  clipCount : Nat
  stuckCount : Nat
  converterFlagUse : Bool
  faultLatch : Bool
  faultWait : Nat
  faultTest : Nat
  dampTime : Nat
  deriving DecidableEq, Repr

/-- A zone record (R84). A next of `none` is END. -/
structure ZoneRecord where
  low : Nat
  high : Nat
  channel : Nat
  transpose : Int
  mode : ZoneMode
  bendRange : Nat
  curve : Fin 4
  next : Option (Fin 32)
  deriving DecidableEq, Repr

/-- A velocity curve: entries c[0] to c[15] (R89). -/
abbrev Curve := Vector Nat 16

/-- A crosstalk row: c[s][1] to c[s][6] of one target string s (R3). -/
abbrev CrosstalkRow := Six Int

/-- The tables the management unit holds (R179). -/
structure Tables where
  device : DeviceRecord
  strings : Six StringRecord
  matrix : Six CrosstalkRow
  zones : Vector ZoneRecord 32
  curves : Vector Curve 4
  deriving DecidableEq, Repr

/-! ### One string -/

/-- String states (section 2.2). -/
inductive StringState
  | off | idle | attack | sounding | damped | faultWait | faultTest | faultLatched
  deriving DecidableEq, Repr

/-- The items of the envelope unit (R15). -/
structure Envelope where
  level : Nat
  peak : Nat
  valley : Nat
  guard : Nat
  hold : Nat
  deriving DecidableEq, Repr

/-- Run states of a period tracker (R37). -/
inductive RunState
  | stopped | running
  deriving DecidableEq, Repr

/-- Lock states of a period tracker (R37). -/
inductive LockState
  | search | locked
  deriving DecidableEq, Repr

/-- States of the crossing detector (R37). -/
inductive Detector
  | armed | disarmed
  deriving DecidableEq, Repr

/-- The numbers of intervals assumed to make one period (R37). -/
inductive CandidateNo
  | k1 | k2 | k3 | k4
  deriving DecidableEq, Repr

/-- One entry of the candidate set (R37). -/
structure Candidate where
  alive : Bool
  passes : Nat
  lastSum : Option Nat
  deriving DecidableEq, Repr

/-- The candidate set (R37). -/
structure Candidates where
  c1 : Candidate
  c2 : Candidate
  c3 : Candidate
  c4 : Candidate
  deriving DecidableEq, Repr

/-- A tracker time, held modulo 2^24 ticks (R37). `turn` is the model's own: how often the modulus has gone by since the
start, so that an interval is judged on exact times (R45; log 7). -/
structure Instant where
  ticks : Nat
  turn : Nat
  deriving DecidableEq, Repr

/-- The items of a period tracker (R37, R58): the sample count is held modulo 2^20. `turns` is the model's own: how often
that modulus has gone by since the start (log 7). `zeroSinceArmed` is implied by R44. `decided` is the model's own: the lock
decision of R51 has been made and the LOCK step is due. -/
structure Tracker where
  run : RunState
  lock : LockState
  samples : Nat
  turns : Nat
  l : Int
  prevL : Int
  detector : Detector
  zeroSinceArmed : Bool
  zero : Option Instant
  ref : Option Instant
  stale : Nat
  history : List Nat
  candidates : Candidates
  k : Option CandidateNo
  period : Option Nat
  jump : Option Nat
  misses : Nat
  decided : Bool
  deriving DecidableEq, Repr

/-- The strike deadline timer (R81). -/
inductive Deadline
  | stopped
  | running (count : Nat)
  | waiting
  deriving DecidableEq, Repr

/-- The zone captured at a STRIKE (R81, R86). -/
structure ZoneCopy where
  channel : Nat
  transpose : Int
  mode : ZoneMode
  bendRange : Nat
  curve : Fin 4
  deriving DecidableEq, Repr

/-- The items of a STRUCK note context (R81). -/
structure Struck where
  held : Nat
  zone : Option ZoneCopy
  announced : Bool
  provisional : Bool
  output : Option Nat
  glideTimer : Nat
  pressTimer : Nat
  lastGlide : Int
  lastPress : Nat
  deriving DecidableEq, Repr

/-- The note context (R81). -/
inductive Context
  | empty
  | pending (deadline : Deadline)
  | struck (note : Struck)
  deriving DecidableEq, Repr

/-- The pitch record (R70): Q and N_raw are present in HELD and TRACKING. -/
inductive Pitch
  | none
  | held (q raw : Nat)
  | tracking (q raw : Nat)
  deriving DecidableEq, Repr

/-- Fault conditions and causes (R131, R133). -/
inductive Cause
  | clip | stuck | converter
  deriving DecidableEq, Repr

/-- The items of a fault monitor (R131). -/
structure Monitor where
  clipRun : Nat
  stuckRun : Nat
  last : Option Int
  flagSeen : Bool
  cause : Option Cause
  wait : Nat
  test : Nat
  retries : Nat
  deriving DecidableEq, Repr

/-- Causes of a note's end (R101). -/
inductive LiftCause
  | release | reattack | fault | link | forced | disabled | reset | mute
  deriving DecidableEq, Repr

/-- A note record (R107). Its string is the one whose queue holds it. -/
inductive NoteRecord
  | strike (channel note velocity : Nat) (stamp : Index) (provisional merged : Bool)
  | shift (channel note : Nat) (stamp : Index) (correction merged : Bool)
  | lift (stamp : Index) (cause : LiftCause)
  deriving DecidableEq, Repr

/-- A GLIDE value record (R111). -/
structure Glide where
  channel : Nat
  value : Int
  stamp : Index
  clamped : Bool
  deriving DecidableEq, Repr

/-- A PRESS value record (R111). -/
structure Press where
  channel : Nat
  level : Nat
  stamp : Index
  deriving DecidableEq, Repr

/-- An open group (R118, R125). -/
structure Group where
  channel : Nat
  note : Nat
  deriving DecidableEq, Repr

/-- The counters of a string group, in answer order (R185). -/
structure StringCounters where
  ghosts : Nat
  unzoned : Nat
  lost : Nat
  merged : Nat
  lockLosses : Nat
  faults : Nat
  retries : Nat
  deriving DecidableEq, Repr

/-- A lock report on its way to the note engine (R53). -/
structure LockReport where
  k : CandidateNo
  period : Nat
  stamp : Index
  deriving DecidableEq, Repr

/-- A hit, jump or search-pass report of a tracker, with its period or sum (R53, R68). -/
inductive Report
  | hit (period : Nat)
  | jump (period : Nat)
  | searchPass (sum : Nat)
  deriving DecidableEq, Repr

/-- The model's own: the steps that a string's arrivals have raised and that have not been taken yet
(log 1). An index is the stamp of the frame that raised the step. -/
structure Due where
  report : Option (Report × Index)
  release : Option Index
  expiry : Option Index
  dampExit : Bool
  stale : Option Index
  lockLoss : Option Index
  lock : Option LockReport
  fault : Option (Cause × Index)
  waitEnd : Bool
  recovery : Bool
  deriving DecidableEq, Repr

/-- Everything the part holds for one string but its table records. `damp` is the damp timer (R142), `group` the
string's open group (R125). `refusing` says that a reset has flushed the queue and the slots and the string's note engine has
not taken the reset yet, so that every offer is refused (R127). -/
structure StringUnit where
  state : StringState
  env : Envelope
  damp : Nat
  tracker : Tracker
  context : Context
  pitch : Pitch
  monitor : Monitor
  queue : List NoteRecord
  glide : Option Glide
  press : Option Press
  refusing : Bool
  group : Option Group
  counters : StringCounters
  due : Due
  deriving DecidableEq, Repr

/-! ### Shared blocks -/

/-- Store states (R149). -/
inductive StoreState
  | halted | prefill | flowing
  deriving DecidableEq, Repr

/-- A frame record of the elastic store (R11, R149). -/
structure FrameRecord where
  samples : Six Int
  index : Index
  deriving DecidableEq, Repr

/-- The elastic store (R149). -/
structure Store where
  state : StoreState
  slots : Vector FrameRecord 32
  write : Fin 32
  read : Fin 32
  fill : Nat
  held : Index
  deriving DecidableEq, Repr

/-- A frame in process (R14): what it carries, its cancelled samples once the canceller has formed them, and which blocks
have taken it: the elastic store its record, each envelope unit and tracker its cancelled sample, each fault monitor its raw
sample and flag. -/
structure Work where
  raw : Six Int
  flags : Six Bool
  index : Index
  y : Option (Six Int)
  offered : Bool
  enveloped : Six Bool
  tracked : Six Bool
  monitored : Six Bool
  deriving DecidableEq, Repr

/-- Receiver states of a link (R162). -/
inductive SyncState
  | hunt | sync
  deriving DecidableEq, Repr

/-- A frame receiver (R162, R165). -/
structure Receiver where
  state : SyncState
  good : Nat
  bad : Nat
  deriving DecidableEq, Repr

/-- A side-channel receiver (R168): `none` is CLOSED, `some buffer` is OPEN. -/
abbrev SideReceiver := Option (List Byte)

/-- The pickup return transmitter (R167). -/
inductive ReturnTx
  | ready
  | sending (message : List Byte) (position : Nat)
  deriving DecidableEq, Repr

/-- The pickup link interface (R162, R167, R168). -/
structure PickupLink where
  receiver : Receiver
  side : SideReceiver
  ret : ReturnTx
  deriving DecidableEq, Repr

/-- States of the synth line clock (R164). -/
inductive ClockState
  | present | absent
  deriving DecidableEq, Repr

/-- The synth link interface (R164, R165, R168). -/
structure SynthLink where
  clock : ClockState
  receiver : Receiver
  side : SideReceiver
  deriving DecidableEq, Repr

/-- Slip directions (R117). -/
inductive SlipDirection
  | repeat | drop
  deriving DecidableEq, Repr

/-- The LINK notices the part offers (R117, R163, R164). -/
inductive LinkEvent
  | pickupDown | pickupUp | synthRestored
  deriving DecidableEq, Repr

/-- Notices (R117). -/
inductive Notice
  | fault (n : StringNo) (cause : Cause)
  | recover (n : StringNo)
  | slip (direction : SlipDirection) (frames : Nat)
  | link (event : LinkEvent)
  deriving DecidableEq, Repr

/-- What the completion of a message in flight does to the open groups (R124). -/
inductive TxItem
  | strike (n : StringNo) (channel note : Nat)
  | shift (n : StringNo) (note : Nat)
  | lift (n : StringNo)
  | other
  deriving DecidableEq, Repr

/-- A message in flight: the whole message and its byte position (R118). -/
structure InFlight where
  item : TxItem
  bytes : List Byte
  position : Nat
  deriving DecidableEq, Repr

/-- The event transmitter's state with its message in flight (R118). -/
inductive TxState
  | ready
  | sending (message : InFlight)
  | aborting
  deriving DecidableEq, Repr

/-- The event transmitter (R118). -/
structure Transmitter where
  state : TxState
  queuePointer : StringNo
  slotPointer : StringNo
  notices : List Notice
  deriving DecidableEq, Repr

/-- The counters of the link group, in answer order (R185). -/
structure LinkCounters where
  pickupSyncLosses : Nat
  synthSyncLosses : Nat
  badCrc : Nat
  short : Nat
  long : Nat
  aborts : Nat
  badAddress : Nat
  relayDrops : Nat
  requestsDropped : Nat
  noticesLost : Nat
  repeatSlips : Nat
  dropSlips : Nat
  deriving DecidableEq, Repr

/-- Why the part stops: for nothing. Every rule of the spec goes on, so there is no fault to name. -/
inductive Fault
  deriving DecidableEq, Repr

/-- Why a command is refused. -/
inductive Refusal
  /-- Raised by an arm of `exec` whose command has no meaning yet; safe, since the part goes on where the model
  stops. No arm raises it. -/
  | notModelled (mnemonic : String)
  deriving DecidableEq, Repr

end Machine
end Sys2Proof

namespace Sys2Proof.Machine

/-- The state of the ZT-610. `index` is the last accepted input frame index (R1). `pickupOut` and `synthOut` are
the frames sent by the latest frame commands of the two links (R166, R167; log 12). `inProcess` is the accepted frame that
some block has not taken yet (R14; log 3). `drawn` and `pending` are the model's own (log 4, log 9). -/
structure State where
  tables : Tables
  units : Six StringUnit
  index : Index
  store : Store
  inProcess : Option Work
  pickup : PickupLink
  synth : SynthLink
  tx : Transmitter
  relayUp : List (List Byte)
  relayDown : List (List Byte)
  answers : List (List Byte)
  link : LinkCounters
  pickupOut : Option FrameBits
  synthOut : Option FrameBits
  drawn : Nat
  pending : List Instr
  deriving DecidableEq, Repr

/-! ### Power-on values -/

/-- The default device record (R180). -/
def DeviceRecord.default : DeviceRecord :=
  { address := 0x10, fA := 44000, fs := 48000, faultNotices := true, recoverNotices := true,
    slipNotices := true, linkNotices := true }

/-- The default zone head of a string: the string number less 1 (R84). -/
def defaultZoneHead : StringNo → Fin 32
  | .s1 => 0 | .s2 => 1 | .s3 => 2 | .s4 => 3 | .s5 => 4 | .s6 => 5

/-- The default string record of a string (R180). -/
def StringRecord.default (n : StringNo) : StringRecord :=
  { enable := true, outputMode := .active, sampleMode := .cancelled, attach := 40000, releaseThreshold := 12000,
    releaseHold := 240, decayShift := 10, velocitySpan := 4000000, lowPassShift := 2, hysteresisShift := 3,
    tolerance := 10, loopShift := 2, confirm := 2, strikeDeadline := 240, zoneHead := some (defaultZoneHead n),
    noteHysteresis := 8, reattackRatio := 24, reattackGuard := 480, glideStep := 1, glideInterval := 48,
    pressInterval := 96, clipLevel := 8380000, clipCount := 32, stuckCount := 16, converterFlagUse := true,
    faultLatch := false, faultWait := 4, faultTest := 2, dampTime := 2400 }

/-- The default zone record of a number (R84). -/
def ZoneRecord.default (i : Fin 32) : ZoneRecord :=
  if i.val ≤ 5 then
    { low := 0, high := 127, channel := i.val + 1, transpose := 0, mode := .bend, bendRange := 12, curve := 0, next := none }
  else
    { low := 127, high := 0, channel := 1, transpose := 0, mode := .bend, bendRange := 12, curve := 0, next := none }

/-- Curve 0, linear (R89). -/
def Curve.linear : Curve := #v[1, 9, 18, 26, 35, 43, 51, 60, 68, 77, 85, 93, 102, 110, 119, 127]

/-- Curve 1, soft (R89). -/
def Curve.soft : Curve := #v[1, 34, 47, 57, 66, 74, 81, 87, 93, 99, 104, 109, 114, 118, 123, 127]

/-- Curve 2, hard (R89). -/
def Curve.hard : Curve := #v[1, 2, 3, 6, 10, 15, 21, 28, 37, 46, 57, 69, 82, 96, 111, 127]

/-- Curve 3, fixed (R89). -/
def Curve.fixed : Curve := Vector.replicate 16 100

/-- Every table at its default (R180, R84, R89, R3). -/
def Tables.default : Tables :=
  { device := .default, strings := Six.ofFn StringRecord.default, matrix := Six.same (Six.same 0),
    zones := Vector.ofFn ZoneRecord.default, curves := #v[Curve.linear, Curve.soft, Curve.hard, Curve.fixed] }

/-- The envelope items at 0 (R15, R35). -/
def Envelope.zero : Envelope := { level := 0, peak := 0, valley := 0, guard := 0, hold := 0 }

/-- A revived candidate: alive, pass count 0, last sum absent (R38). -/
def Candidate.revived : Candidate := { alive := true, passes := 0, lastSum := none }

/-- All four candidates revived (R38). -/
def Candidates.revived : Candidates := ⟨.revived, .revived, .revived, .revived⟩

/-- The start values of a period tracker (R38), in the given run state. -/
def Tracker.fresh (run : RunState) : Tracker :=
  { run := run, lock := .search, samples := 0, turns := 0, l := 0, prevL := 0, detector := .disarmed, zeroSinceArmed := false,
    zero := none, ref := none, stale := 4096, history := [], candidates := .revived, k := none, period := none,
    jump := none, misses := 0, decided := false }

/-- The cleared fault monitor (R131, R146). -/
def Monitor.clear : Monitor :=
  { clipRun := 0, stuckRun := 0, last := none, flagSeen := false, cause := none, wait := 0, test := 0, retries := 0 }

/-- Every counter of a string group at 0 (R185). -/
def StringCounters.zero : StringCounters :=
  { ghosts := 0, unzoned := 0, lost := 0, merged := 0, lockLosses := 0, faults := 0, retries := 0 }

/-- No step is due. -/
def Due.none : Due :=
  { report := .none, release := .none, expiry := .none, dampExit := false, stale := .none, lockLoss := .none, lock := .none,
    fault := .none, waitEnd := false, recovery := false }

/-- A string at power-on (R35, R56, R105, R107, R111, R118, R131). -/
def StringUnit.powerOn : StringUnit :=
  { state := .idle, env := .zero, damp := 0, tracker := .fresh .stopped, context := .empty, pitch := .none,
    monitor := .clear, queue := [], glide := none, press := none, refusing := false, group := none, counters := .zero, due := .none }

/-- The record an unwritten slot is held as: R149 says the slots are empty at power-on (log 6, DESIGN CHOICE,
unsafe; no reachable read shows it). -/
def FrameRecord.empty : FrameRecord := { samples := Six.same 0, index := 0 }

/-- The elastic store at power-on (R149). -/
def Store.powerOn : Store :=
  { state := .halted, slots := Vector.replicate 32 .empty, write := 0, read := 0, fill := 0, held := 0 }

/-- A frame receiver at power-on (R162, R165). -/
def Receiver.powerOn : Receiver := { state := .hunt, good := 0, bad := 0 }

/-- Every counter of the link group at 0 (R185). -/
def LinkCounters.zero : LinkCounters :=
  { pickupSyncLosses := 0, synthSyncLosses := 0, badCrc := 0, short := 0, long := 0, aborts := 0, badAddress := 0,
    relayDrops := 0, requestsDropped := 0, noticesLost := 0, repeatSlips := 0, dropSlips := 0 }

/-- The part right after power-on, with no command waiting (R35, R118, R149, R174, R188). -/
def State.reset : State :=
  { tables := .default, units := Six.same .powerOn, index := 0, store := .powerOn, inProcess := none,
    pickup := { receiver := .powerOn, side := none, ret := .ready },
    synth := { clock := .absent, receiver := .powerOn, side := none },
    tx := { state := .ready, queuePointer := .s6, slotPointer := .s6, notices := [] },
    relayUp := [], relayDown := [], answers := [], link := .zero, pickupOut := none, synthOut := none,
    drawn := 0, pending := [] }

end Sys2Proof.Machine
end

