-- ==== Sys2Proof/Machine/Arith.lean ====
section
/-! DEFINITION. The arithmetic the rules share: rounding, saturation, clamping, and the pitch of a period. -/

namespace Sys2Proof.Machine

/-- The least sample, −8,388,608 (00_scope.md, Units). -/
def sampleMin : Int := -8388608

/-- The greatest sample, +8,388,607 (00_scope.md, Units). -/
def sampleMax : Int := 8388607

/-- The greatest envelope level (R15). -/
def levelMax : Nat := 8388607

/-- A value outside a range replaced by the nearer end (00_scope.md, "Rounding"). -/
def clampInt (lo hi v : Int) : Int := max lo (min hi v)

/-- A value outside a range replaced by the nearer end. -/
def clampNat (lo hi v : Nat) : Nat := max lo (min hi v)

/-- Saturation to the sample range (R6, R41). -/
def saturate (v : Int) : Int := clampInt sampleMin sampleMax v

/-- `a / b` rounded to the nearest integer, halves away from zero (00_scope.md, "Rounding"), for a positive `b`. -/
def roundAway (a : Int) (b : Nat) : Int :=
  if 0 ≤ a then (2 * a + b) / (2 * b) else -((2 * (-a) + b) / (2 * b))

/-- A 16-bit counter after one event: it holds at 65,535 (R185). -/
def bump (c : Nat) : Nat := min 65535 (c + 1)

/-- A count after one event, saturating at 255 (R49, R131). -/
def bump8 (c : Nat) : Nat := min 255 (c + 1)

/-! ### Pitch (R71 to R73) -/

/-- Whether the value of R71, rounded to the nearest integer with halves upward, is at least `q`. With
`N = fs × 409600` and `D = T × fA` the value is `4416 + 768 × log2 (N / D)`, so it is at least `q − 1/2` exactly when
`2^(2q) × D^1536 ≤ 2^8833 × N^1536`: no rounding is made before the comparison (log 17, DEDUCED). -/
def pitchReaches (fs fA period q : Nat) : Bool :=
  2 ^ (2 * q) * (period * fA) ^ 1536 ≤ 2 ^ 8833 * (fs * 409600) ^ 1536

/-- The greatest `q` of `acc … acc + 2^bits − 1` that `reaches` holds of, or `acc`, found from the top bit down. -/
def greatestBelow (reaches : Nat → Bool) : Nat → Nat → Nat
  | 0, acc => acc
  | bits + 1, acc => greatestBelow reaches bits (if reaches (acc + 2 ^ bits) then acc + 2 ^ bits else acc)

/-- Q of a period, rounded with halves upward and clamped to 0…8191 (R71, R72). -/
def pitchOf (device : DeviceRecord) (period : Nat) : Nat :=
  greatestBelow (pitchReaches device.fs device.fA period) 13 0

/-- N_raw: the note number nearest to Q, clamped to 0…127 (R73). -/
def rawNote (q : Nat) : Nat := min 127 ((q + 32) / 64)

end Sys2Proof.Machine
end

