-- ==== Sys2Proof/Machine/Crc.lean ====
section
/-! DEFINITION. The side-channel CRC (R171). -/

namespace Sys2Proof.Machine

/-- The generator without its leading term (R171). -/
def crcGenerator : BitVec 16 := 0x8005#16

/-- One bit taken into the CRC register (R171). -/
def crcBit (register : BitVec 16) (bit : Bool) : BitVec 16 :=
  if register.msb != bit then (register <<< 1) ^^^ crcGenerator else register <<< 1

/-- The bits of a byte from the most significant to the least. -/
def byteBits (b : Byte) : List Bool :=
  [b.getLsbD 7, b.getLsbD 6, b.getLsbD 5, b.getLsbD 4, b.getLsbD 3, b.getLsbD 2, b.getLsbD 1, b.getLsbD 0]

/-- One byte taken into the CRC register (R171). -/
def crcByte (register : BitVec 16) (b : Byte) : BitVec 16 := (byteBits b).foldl crcBit register

/-- The register after a run of bytes, from a given register. -/
def crcFrom (register : BitVec 16) (bytes : List Byte) : BitVec 16 := bytes.foldl crcByte register

/-- The CRC of a run of bytes: the register starts at $FFFF and is taken as it stands (R171). -/
def crc (bytes : List Byte) : BitVec 16 := crcFrom 0xFFFF#16 bytes

/-- The two bytes a CRC is sent as: high byte, then low byte (R171). -/
def crcBytes (c : BitVec 16) : List Byte := [c.extractLsb' 8 8, c.extractLsb' 0 8]

/-- A message's bytes with their CRC behind them (R123, R191). -/
def withCrc (bytes : List Byte) : List Byte := bytes ++ crcBytes (crc bytes)

/-- The receiver's check of a completed message: the CRC over every byte but the last two equals those two
(R170). -/
def crcGood (message : List Byte) : Bool :=
  message.drop (message.length - 2) == crcBytes (crc (message.take (message.length - 2)))

end Sys2Proof.Machine
end

