-- ==== Sys2Proof/Machine/Operands.lean ====
section
/-! DEFINITION. The formats of chapter 11: the fields of link frames, the table records as bytes (read with the
clamps and fixes of R180 and R181), the codes, and the messages the part builds. -/

namespace Sys2Proof.Machine

/-! ### Codes and numbers -/

/-- Side byte tags (R161, R190). -/
inductive Tag
  | idle | first | mid | last
  deriving DecidableEq, Repr

/-- A tag's code (R190). -/
def Tag.code : Tag → BitVec 2
  | .idle => 0 | .first => 1 | .mid => 2 | .last => 3

/-- The tag of a code (R190). -/
def Tag.ofCode (c : BitVec 2) : Tag :=
  match c.toNat with
  | 0 => .idle
  | 1 => .first
  | 2 => .mid
  | _ => .last

/-- The string a byte numbers: 1 to 6, or none (R191). -/
def stringOf : Nat → Option StringNo
  | 1 => some .s1 | 2 => some .s2 | 3 => some .s3 | 4 => some .s4 | 5 => some .s5 | 6 => some .s6
  | _ => none

/-- A number as one byte. -/
def byte (v : Nat) : Byte := BitVec.ofNat 8 v

/-- A number as two bytes, most significant first (R191). -/
def bytes2 (v : Nat) : List Byte := [byte (v / 256), byte v]

/-- A number as three bytes, most significant first (R191). -/
def bytes3 (v : Nat) : List Byte := [byte (v / 65536), byte (v / 256), byte v]

/-- A signed number as one byte, two's complement (R191). -/
def signed1 (v : Int) : List Byte := [BitVec.ofInt 8 v]

/-- A signed number as two bytes, two's complement, most significant first (R191). -/
def signed2 (v : Int) : List Byte := [(BitVec.ofInt 16 v).extractLsb' 8 8, (BitVec.ofInt 16 v).extractLsb' 0 8]

/-- A stamp as two bytes. -/
def stampBytes (i : Index) : List Byte := bytes2 i.toNat

/-- A flag as one byte or one bit's value. -/
def flag (b : Bool) : Nat := if b then 1 else 0

/-- Byte `i` of a run. -/
def byteAt (bytes : List Byte) (i : Nat) : Nat := (bytes.getD i 0).toNat

/-- The unsigned two-byte field at `i`. -/
def field2 (bytes : List Byte) (i : Nat) : Nat := byteAt bytes i * 256 + byteAt bytes (i + 1)

/-- The unsigned three-byte field at `i`. -/
def field3 (bytes : List Byte) (i : Nat) : Nat :=
  byteAt bytes i * 65536 + byteAt bytes (i + 1) * 256 + byteAt bytes (i + 2)

/-- The signed one-byte field at `i`. -/
def signedAt (bytes : List Byte) (i : Nat) : Int := (bytes.getD i 0).toInt

/-- The signed two-byte field at `i`. -/
def signedAt2 (bytes : List Byte) (i : Nat) : Int := (bytes.getD i 0 ++ bytes.getD (i + 1) 0).toInt

/-! ### Link frames (R189, R190) -/

/-- The sync pattern (R190). -/
def syncPattern : BitVec 16 := 0xC6B3#16

/-- The field of `width` frame bits that begins at frame bit `first`; frame bit 0 is the first sent and a field's
most significant bit is sent first (R189; log 11). -/
def frameField (frame : FrameBits) (first width : Nat) : BitVec width := frame.extractLsb' (256 - first - width) width

/-- A received frame has good sync when its bits 0 to 15 hold the pattern (R190). -/
def goodSync (frame : FrameBits) : Bool := frameField frame 0 16 == syncPattern

/-- The raw sample of a string in a pickup forward frame: bits 16 to 159, string 1 first (R190). -/
def frameSample (frame : FrameBits) (n : StringNo) : Int := (frameField frame (16 + 24 * (n.num - 1)) 24).toInt

/-- The channel-error flag of a string in a pickup forward frame: bits 160 to 165 (R190). -/
def frameFlag (frame : FrameBits) (n : StringNo) : Bool := frameField frame (160 + (n.num - 1)) 1 == 1#1

/-- The tag of a pickup forward frame: bits 166 and 167 (R190). -/
def pickupTag (frame : FrameBits) : Tag := Tag.ofCode (frameField frame 166 2)

/-- The side byte of a pickup forward frame: bits 168 to 175 (R190). -/
def pickupSide (frame : FrameBits) : Byte := frameField frame 168 8

/-- The tag of a synth return frame: bits 16 and 17 (R190). -/
def returnTag (frame : FrameBits) : Tag := Tag.ofCode (frameField frame 16 2)

/-- The side byte of a synth return frame: bits 18 to 25 (R190). -/
def returnSide (frame : FrameBits) : Byte := frameField frame 18 8

/-- A pickup return frame: sync, tag, side byte, zeros (R190). -/
def pickupReturnFrame (tag : Tag) (side : Byte) : FrameBits := syncPattern ++ tag.code ++ side ++ 0#230

/-- The six samples of a synth forward frame (R190). -/
def sampleBits (samples : Six Int) : BitVec 144 :=
  BitVec.ofInt 24 samples.x1 ++ BitVec.ofInt 24 samples.x2 ++ BitVec.ofInt 24 samples.x3 ++
    BitVec.ofInt 24 samples.x4 ++ BitVec.ofInt 24 samples.x5 ++ BitVec.ofInt 24 samples.x6

/-- A synth forward frame: sync, samples, index, PREFILL flag, pickup-in-SYNC flag, tag, side byte, zeros (R190). -/
def synthForwardFrame (record : FrameRecord) (prefill inSync : Bool) (tag : Tag) (side : Byte) : FrameBits :=
  syncPattern ++ sampleBits record.samples ++ record.index ++ BitVec.ofBool prefill ++ BitVec.ofBool inSync ++
    tag.code ++ side ++ 0#68

/-! ### Table records (R179 to R181, R195) -/

/-- The code of an output mode (R193). -/
def OutputMode.code : OutputMode → Nat
  | .active => 0 | .frozen => 1 | .muted => 2

/-- The output mode of a code (R193). -/
def OutputMode.ofCode : Nat → Option OutputMode
  | 0 => some .active | 1 => some .frozen | 2 => some .muted | _ => none

/-- The code of a sample mode (R195). -/
def SampleMode.code : SampleMode → Nat
  | .raw => 0 | .cancelled => 1 | .zero => 2

/-- The sample mode of a code (R195). -/
def SampleMode.ofCode : Nat → Option SampleMode
  | 0 => some .raw | 1 => some .cancelled | 2 => some .zero | _ => none

/-- The code of a zone mode (R195). -/
def ZoneMode.code : ZoneMode → Nat
  | .bend => 0 | .step => 1

/-- The zone mode of a code (R195). -/
def ZoneMode.ofCode : Nat → Option ZoneMode
  | 0 => some .bend | 1 => some .step | _ => none

/-- Zone head or zone next from its byte: 0…31 name a record, any other value becomes END (R180, R195). -/
def zoneLink (v : Nat) : Option (Fin 32) := if h : v < 32 then some ⟨v, h⟩ else none

/-- Zone head or zone next as its byte: END is $FF (R195). -/
def zoneLinkByte : Option (Fin 32) → Byte
  | some i => byte i.val
  | none => 0xFF#8

/-- A flag field: any value but 0 becomes 1 (R180, R195). -/
def flagField (v : Nat) : Bool := v != 0

/-- The device record a PUT's seven bytes give, clamped (R180, R195). -/
def readDevice (r : List Byte) : DeviceRecord :=
  { address := clampNat 1 126 (byteAt r 0)
    fA := clampNat 41500 46600 (field2 r 1)
    fs := clampNat 32000 96000 (field3 r 3)
    faultNotices := (r.getD 6 0).getLsbD 0
    recoverNotices := (r.getD 6 0).getLsbD 1
    slipNotices := (r.getD 6 0).getLsbD 2
    linkNotices := (r.getD 6 0).getLsbD 3 }

/-- The device record as bytes (R195). -/
def DeviceRecord.bytes (d : DeviceRecord) : List Byte :=
  [byte d.address] ++ bytes2 d.fA ++ bytes3 d.fs ++
    [byte (flag d.faultNotices + 2 * flag d.recoverNotices + 4 * flag d.slipNotices + 8 * flag d.linkNotices)]

/-- Cross-field fix 1 (R181): A and S after the clamps, with S above A. -/
def fixSpan (a s : Nat) : Nat × Nat :=
  if s ≤ a then (if a = levelMax then (levelMax - 1, levelMax) else (a, a + 1)) else (a, s)

/-- Cross-field fix 2 (R181): the release threshold below A. -/
def fixRelease (a release : Nat) : Nat := if a ≤ release then a - 1 else release

/-- The string record a PUT's 43 bytes give with the output mode and sample mode already judged: clamped (R180),
then fixed across fields (R181). -/
def readString (output : OutputMode) (sample : SampleMode) (r : List Byte) : StringRecord :=
  let span := fixSpan (clampNat 16 levelMax (field3 r 3)) (clampNat 1 levelMax (field3 r 12))
  { enable := flagField (byteAt r 0)
    outputMode := output
    sampleMode := sample
    attach := span.1
    releaseThreshold := fixRelease span.1 (clampNat 1 levelMax (field3 r 6))
    releaseHold := clampNat 1 4095 (field2 r 9)
    decayShift := clampNat 4 15 (byteAt r 11)
    velocitySpan := span.2
    lowPassShift := clampNat 0 6 (byteAt r 15)
    hysteresisShift := clampNat 1 6 (byteAt r 16)
    tolerance := clampNat 4 64 (byteAt r 17)
    loopShift := clampNat 0 7 (byteAt r 18)
    confirm := clampNat 1 8 (byteAt r 19)
    strikeDeadline := clampNat 0 4095 (field2 r 20)
    zoneHead := zoneLink (byteAt r 22)
    noteHysteresis := clampNat 0 24 (byteAt r 23)
    reattackRatio := clampNat 9 64 (byteAt r 24)
    reattackGuard := clampNat 0 4095 (field2 r 25)
    glideStep := clampNat 1 16 (byteAt r 27)
    glideInterval := clampNat 8 1024 (field2 r 28)
    pressInterval := clampNat 0 4095 (field2 r 30)
    clipLevel := clampNat 1 levelMax (field3 r 32)
    clipCount := clampNat 1 255 (byteAt r 35)
    stuckCount := clampNat 1 255 (byteAt r 36)
    converterFlagUse := flagField (byteAt r 37)
    faultLatch := flagField (byteAt r 38)
    faultWait := clampNat 1 15 (byteAt r 39)
    faultTest := clampNat 1 15 (byteAt r 40)
    dampTime := clampNat 0 65535 (field2 r 41) }

/-- The string record as 43 bytes (R195). -/
def StringRecord.bytes (r : StringRecord) : List Byte :=
  [byte (flag r.enable), byte r.outputMode.code, byte r.sampleMode.code] ++ bytes3 r.attach ++
    bytes3 r.releaseThreshold ++ bytes2 r.releaseHold ++ [byte r.decayShift] ++ bytes3 r.velocitySpan ++
    [byte r.lowPassShift, byte r.hysteresisShift, byte r.tolerance, byte r.loopShift, byte r.confirm] ++
    bytes2 r.strikeDeadline ++ [zoneLinkByte r.zoneHead, byte r.noteHysteresis, byte r.reattackRatio] ++
    bytes2 r.reattackGuard ++ [byte r.glideStep] ++ bytes2 r.glideInterval ++ bytes2 r.pressInterval ++
    bytes3 r.clipLevel ++ [byte r.clipCount, byte r.stuckCount, byte (flag r.converterFlagUse),
    byte (flag r.faultLatch), byte r.faultWait, byte r.faultTest] ++ bytes2 r.dampTime

/-- One coefficient of a crosstalk row for target `s`: clamped, and the own-string entry 0 (R3, R180, R181). -/
def readCoefficient (s t : StringNo) (r : List Byte) : Int :=
  if s = t then 0 else clampInt (-16384) 16383 (signedAt2 r (2 * (t.num - 1)))

/-- The crosstalk row a PUT's twelve bytes give for target `s` (R180, R181, R195). -/
def readRow (s : StringNo) (r : List Byte) : CrosstalkRow := Six.ofFn fun t => readCoefficient s t r

/-- A crosstalk row as bytes (R195). -/
def rowBytes (r : CrosstalkRow) : List Byte :=
  signed2 r.x1 ++ signed2 r.x2 ++ signed2 r.x3 ++ signed2 r.x4 ++ signed2 r.x5 ++ signed2 r.x6

/-- The zone record a PUT's eight bytes give with the zone mode already judged, clamped (R84, R180, R195). -/
def readZone (mode : ZoneMode) (r : List Byte) : ZoneRecord :=
  { low := clampNat 0 127 (byteAt r 0)
    high := clampNat 0 127 (byteAt r 1)
    channel := clampNat 1 16 (byteAt r 2)
    transpose := clampInt (-48) 48 (signedAt r 3)
    mode := mode
    bendRange := clampNat 1 24 (byteAt r 5)
    curve := Fin.ofNat 4 (clampNat 0 3 (byteAt r 6))
    next := zoneLink (byteAt r 7) }

/-- A zone record as bytes (R195). -/
def ZoneRecord.bytes (z : ZoneRecord) : List Byte :=
  [byte z.low, byte z.high, byte z.channel] ++ signed1 z.transpose ++
    [byte z.mode.code, byte z.bendRange, byte z.curve.val, zoneLinkByte z.next]

/-- The velocity curve a PUT's sixteen bytes give, clamped (R89, R180, R195). -/
def readCurve (r : List Byte) : Curve := Vector.ofFn fun i : Fin 16 => clampNat 1 127 (byteAt r i.val)

/-- A velocity curve as bytes (R195). -/
def curveBytes (c : Curve) : List Byte := c.toList.map byte

/-! ### Messages (R123, R191, R192) -/

/-- Kind codes (R191). -/
def kindStrike : Byte := 0x01#8
def kindShift : Byte := 0x02#8
def kindLift : Byte := 0x03#8
def kindGlide : Byte := 0x04#8
def kindPress : Byte := 0x05#8
def kindFault : Byte := 0x08#8
def kindRecover : Byte := 0x09#8
def kindSlip : Byte := 0x0A#8
def kindLink : Byte := 0x0B#8
def kindAnswer : Byte := 0x10#8
def kindPut : Byte := 0x20#8
def kindGet : Byte := 0x21#8
def kindMode : Byte := 0x22#8
def kindClear : Byte := 0x23#8
def kindDamp : Byte := 0x24#8
def kindStatus : Byte := 0x25#8
def kindCounters : Byte := 0x26#8
def kindReset : Byte := 0x27#8

/-- A message the part builds: its address, a kind, a body and the CRC (R123). -/
def message (device : DeviceRecord) (kind : Byte) (body : List Byte) : List Byte :=
  withCrc (byte device.address :: kind :: body)

/-- The code of a LIFT cause (R192). -/
def LiftCause.code : LiftCause → Nat
  | .release => 1 | .reattack => 2 | .fault => 3 | .link => 4
  | .forced => 5 | .disabled => 6 | .reset => 7 | .mute => 8

/-- The code of a fault cause; 0 is none (R192). -/
def causeCode : Option Cause → Nat
  | none => 0 | some .clip => 1 | some .stuck => 2 | some .converter => 3

/-- The code of a slip direction (R192). -/
def SlipDirection.code : SlipDirection → Nat
  | .repeat => 1 | .drop => 2

/-- The link and state codes of a LINK notice (R192). -/
def LinkEvent.codes : LinkEvent → List Byte
  | .pickupDown => [1, 1] | .pickupUp => [1, 2] | .synthRestored => [2, 3]

/-- The body of a STRIKE (R192). -/
def strikeBody (n : StringNo) (channel note velocity : Nat) (stamp : Index) (provisional merged : Bool) : List Byte :=
  [byte n.num, byte channel, byte note, byte velocity] ++ stampBytes stamp ++ [byte (flag provisional + 2 * flag merged)]

/-- The body of a SHIFT (R192). -/
def shiftBody (n : StringNo) (channel note : Nat) (stamp : Index) (correction merged : Bool) : List Byte :=
  [byte n.num, byte channel, byte note] ++ stampBytes stamp ++ [byte (flag correction + 2 * flag merged)]

/-- The body of a LIFT with the channel and note of its open group (R121, R192). -/
def liftBody (n : StringNo) (g : Group) (stamp : Index) (cause : LiftCause) : List Byte :=
  [byte n.num, byte g.channel, byte g.note] ++ stampBytes stamp ++ [byte cause.code]

/-- The body of a GLIDE (R192). -/
def glideBody (n : StringNo) (g : Glide) : List Byte :=
  [byte n.num, byte g.channel] ++ signed2 g.value ++ stampBytes g.stamp ++ [byte (flag g.clamped)]

/-- The body of a PRESS (R192). -/
def pressBody (n : StringNo) (p : Press) : List Byte :=
  [byte n.num, byte p.channel, byte p.level] ++ stampBytes p.stamp

/-- The kind and body of a notice (R192). -/
def noticeMessage : Notice → Byte × List Byte
  | .fault n c => (kindFault, [byte n.num, byte (causeCode (some c))])
  | .recover n => (kindRecover, [byte n.num])
  | .slip d f => (kindSlip, [byte d.code, byte f])
  | .link e => (kindLink, e.codes)

/-- Result codes of an ANSWER (R177, R192). -/
inductive Result
  | ok | clamped | badKind | badTable | badIndex | badLength | badValue | noEffect | stillFaulted
  deriving DecidableEq, Repr

/-- The byte of a result code (R192). -/
def Result.code : Result → Nat
  | .ok => 0 | .clamped => 1 | .badKind => 2 | .badTable => 3 | .badIndex => 4
  | .badLength => 5 | .badValue => 6 | .noEffect => 7 | .stillFaulted => 8

/-- The byte of a string state (R194). -/
def StringState.code : StringState → Nat
  | .off => 0 | .idle => 1 | .attack => 2 | .sounding => 3
  | .damped => 4 | .faultWait => 5 | .faultTest => 6 | .faultLatched => 7

end Sys2Proof.Machine
end

