-- ==== Sys2Proof/Machine/Flags.lean ====
section
/-! DEFINITION. The flags the part reports or reads: the quick status of every ANSWER (R178, R192), the fault
states, and the notice mask (R117). -/

namespace Sys2Proof.Machine

/-- FAULT_WAIT, FAULT_TEST and FAULT_LATCHED are the fault states (R4). -/
def StringState.faulted : StringState → Bool
  | .faultWait | .faultTest | .faultLatched => true
  | .off | .idle | .attack | .sounding | .damped => false

/-- The states that set a string's sounding bit: ATTACK, SOUNDING, DAMPED (R36, R178). -/
def StringState.sounds : StringState → Bool
  | .attack | .sounding | .damped => true
  | .off | .idle | .faultWait | .faultTest | .faultLatched => false

/-- The states in which the tracker runs: ATTACK and SOUNDING (section 2.2). -/
def StringState.tracked : StringState → Bool
  | .attack | .sounding => true
  | .off | .idle | .damped | .faultWait | .faultTest | .faultLatched => false

/-- The prefill bit: the store is in PREFILL or HALTED (R159, R178). -/
def StoreState.prefilling : StoreState → Bool
  | .prefill | .halted => true
  | .flowing => false

/-- The notice mask's enable of a notice's kind (R117). -/
def DeviceRecord.enables (d : DeviceRecord) : Notice → Bool
  | .fault _ _ => d.faultNotices
  | .recover _ => d.recoverNotices
  | .slip _ _ => d.slipNotices
  | .link _ => d.linkNotices

/-- Six bits as a number, string 1 in bit 0 (R192). -/
def sixBits (b : Six Bool) : Nat :=
  flag b.x1 + 2 * flag b.x2 + 4 * flag b.x3 + 8 * flag b.x4 + 16 * flag b.x5 + 32 * flag b.x6

/-- The two bytes of the quick status: sounding bits, pickup link bit and prefill bit; then the fault bits
(R178, R192). `states` are the string states as the answer reads them. -/
def quickStatus (states : Six StringState) (pickup : SyncState) (store : StoreState) : List Byte :=
  [byte (sixBits ⟨states.x1.sounds, states.x2.sounds, states.x3.sounds, states.x4.sounds, states.x5.sounds,
      states.x6.sounds⟩ + 64 * flag (pickup == .sync) + 128 * flag store.prefilling),
   byte (sixBits ⟨states.x1.faulted, states.x2.faulted, states.x3.faulted, states.x4.faulted, states.x5.faulted,
      states.x6.faulted⟩)]

end Sys2Proof.Machine
end

