-- ==== Sys2Proof/Machine/Ops.lean ====
section
/-! DEFINITION. The named operations the blocks share: reading and replacing one string's unit and record,
clearing the parts of a unit, and offering a notice. -/

namespace Sys2Proof.Machine

/-- Everything the part holds for string `n` but its table records. -/
def State.unit (s : State) (n : StringNo) : StringUnit := s.units.get n

/-- The string record of string `n` (R180). -/
def State.record (s : State) (n : StringNo) : StringRecord := s.tables.strings.get n

/-- String `n`'s unit replaced. -/
def State.setUnit (s : State) (n : StringNo) (u : StringUnit) : State := { s with units := s.units.set n u }

/-- String `n`'s unit changed. -/
def State.modUnit (s : State) (n : StringNo) (f : StringUnit → StringUnit) : State := s.setUnit n (f (s.unit n))

/-- The string states, strings 1 to 6. -/
def State.states (s : State) : Six StringState := Six.ofFn fun n => (s.unit n).state

/-- A notice offered to the notice queue: not queued when its kind is masked, appended when the queue holds 0…7,
dropped and counted at 8 (R117). -/
def State.offerNotice (s : State) (notice : Notice) : State :=
  if s.tables.device.enables notice then
    if s.tx.notices.length ≤ 7 then
      { s with tx := { s.tx with notices := s.tx.notices ++ [notice] } }
    else
      { s with link := { s.link with noticesLost := bump s.link.noticesLost } }
  else s

/-- P, V, the guard timer and the release-hold count at 0; e keeps its value (R25, R26, R142). -/
def Envelope.quiet (v : Envelope) : Envelope := { Envelope.zero with level := v.level }

/-- The note context cleared: EMPTY, every item absent, and the pitch record NONE (R70, R81). -/
def StringUnit.clearContext (u : StringUnit) : StringUnit :=
  { u with context := .empty, pitch := .none, due := { u.due with expiry := none } }

/-- The period tracker stopped: STOPPED with every item at its start value (R30, R39). -/
def StringUnit.stopTracker (u : StringUnit) : StringUnit := { u with tracker := .fresh .stopped }

/-- The string queue and both slots emptied (R107, R111). -/
def StringUnit.flush (u : StringUnit) : StringUnit := { u with queue := [], glide := none, press := none }

end Sys2Proof.Machine
end

