-- ==== Sys2Proof/Machine/Canceller.lean ====
section
/-! DEFINITION. The bleed canceller and the choice of outgoing samples (chapter 1). -/

namespace Sys2Proof.Machine

/-- A neighbour sample: 0 while its string is in a fault state (R4). -/
def neighbour (state : StringState) (x : Int) : Int := if state.faulted then 0 else x

/-- A crosstalk term: `c × x′ / 32768` rounded to nearest, halves away from zero (R5). -/
def crosstalkTerm (c x : Int) : Int := roundAway (c * x) 32768

/-- The term of neighbour `t` in row `s`; the own-string entry takes no part (R3, R5). -/
def rowTerm (s t : StringNo) (row : CrosstalkRow) (x : Six Int) : Int :=
  if s = t then 0 else crosstalkTerm (row.get t) (x.get t)

/-- The sum of the five crosstalk terms of row `s` (R6). -/
def rowSum (s : StringNo) (row : CrosstalkRow) (x : Six Int) : Int :=
  rowTerm s .s1 row x + rowTerm s .s2 row x + rowTerm s .s3 row x + rowTerm s .s4 row x + rowTerm s .s5 row x +
    rowTerm s .s6 row x

/-- The six cancelled samples of a frame, from the fault states as they stand (R4 to R6). -/
def cancel (matrix : Six CrosstalkRow) (states : Six StringState) (raw : Six Int) : Six Int :=
  let x := Six.ofFn fun t => neighbour (states.get t) (raw.get t)
  Six.ofFn fun s => saturate (raw.get s - rowSum s (matrix.get s) x)

/-- The outgoing sample of a string: 0 in a fault state, else by its sample mode (R9, R10). -/
def outgoing (mode : SampleMode) (state : StringState) (x y : Int) : Int :=
  if state.faulted then 0
  else
    match mode with
    | .raw => x
    | .cancelled => y
    | .zero => 0

/-- The frame record offered to the elastic store, formed from the fault states and sample modes as they stand (R10, R11). -/
def State.frameRecord (raw y : Six Int) (index : Index) (s : State) : FrameRecord :=
  { samples := Six.ofFn fun n => outgoing (s.record n).sampleMode (s.unit n).state (raw.get n) (y.get n), index := index }

end Sys2Proof.Machine
end

