-- ==== Sys2Proof/Machine/ElasticStore.lean ====
section
/-! DEFINITION. The elastic store: writes, reads, slips and flushes (chapter 8). -/

namespace Sys2Proof.Machine

/-- A slot position moved on by `k` places, modulo 32. -/
def advance (position : Fin 32) (k : Nat) : Fin 32 := Fin.ofNat 32 (position.val + k)

/-- A slot position moved back by `k ≤ 32` places, modulo 32. -/
def retreat (position : Fin 32) (k : Nat) : Fin 32 := Fin.ofNat 32 (position.val + 32 - k)

/-- A flush: fill 0, the read position at the write position, the slots in place (R149). -/
def Store.flush (state : StoreState) (st : Store) : Store := { st with state := state, fill := 0, read := st.write }

/-- The flush of the pickup receiver's entry to HUNT (R156). -/
def Store.huntFlush (st : Store) : Store :=
  match st.state with
  | .halted => st.flush .halted
  | .prefill | .flowing => st.flush .prefill

/-- A record put into the slot at the write position (R150). -/
def Store.put (record : FrameRecord) (st : Store) : Store :=
  { st with slots := st.slots.set st.write.val record, write := advance st.write 1, fill := st.fill + 1 }

/-- A DROP slip on the read position and the fill (R151). -/
def Store.dropSlip (st : Store) : Store :=
  { st with read := advance st.read (st.fill + 1 - 16), fill := st.fill - (st.fill + 1 - 16) }

/-- A REPEAT slip on the read position and the fill (R153). -/
def Store.repeatSlip (st : Store) : Store := { st with read := retreat st.read (16 - st.fill), fill := 16 }

/-- A record offered to the store, with the number of frames skipped by a DROP slip it makes (R150, R151). In PREFILL a write
raises the fill, and a read beside it takes nothing (R150, R152), though the last row of R155 leaves the fill unchanged after
both (log 28, DESIGN CHOICE). -/
def Store.accept (record : FrameRecord) (st : Store) : Store × Option Nat :=
  match st.state with
  | .halted => (st, none)
  | .prefill =>
    let st := Store.put record st
    (if st.fill = 16 then { st with state := .flowing } else st, none)
  | .flowing =>
    if 30 ≤ st.fill then (Store.put record st.dropSlip, some (st.fill + 1 - 16)) else (Store.put record st, none)

/-- The record at the read position taken (R152). -/
def Store.take (st : Store) : Store × FrameRecord :=
  let record := st.slots.get st.read
  ({ st with read := advance st.read 1, fill := st.fill - 1, held := record.index }, record)

/-- What a read answers: the store after it, the record sent, the PREFILL flag, and the number of frames a REPEAT slip
repeats (R152, R153). -/
structure StoreRead where
  store : Store
  record : FrameRecord
  prefill : Bool
  repeated : Option Nat

/-- The read of a synth forward frame (R152, R153). In HALTED no read arrives; it would answer as in PREFILL. -/
def Store.readOut (st : Store) : StoreRead :=
  match st.state with
  | .halted | .prefill =>
    { store := st, record := { samples := Six.same 0, index := st.held }, prefill := true, repeated := none }
  | .flowing =>
    let slipped := if st.fill ≤ 2 then st.repeatSlip else st
    let (after, record) := slipped.take
    { store := after, record := record, prefill := false,
      repeated := if st.fill ≤ 2 then some (16 - st.fill) else none }

/-- A frame record offered to the part's store, with the accounting of a DROP slip (R150, R151, R154). -/
def State.offerRecord (record : FrameRecord) (s : State) : State :=
  match s.store.accept record with
  | (st, none) => { s with store := st }
  | (st, some frames) =>
    State.offerNotice { s with store := st, link := { s.link with dropSlips := bump s.link.dropSlips } } (.slip .drop frames)

/-- The store's answer to a synth forward frame, with the accounting of a REPEAT slip (R152, R153, R154). -/
def State.readStore (s : State) : State × FrameRecord × Bool :=
  let answer := s.store.readOut
  match answer.repeated with
  | none => ({ s with store := answer.store }, answer.record, answer.prefill)
  | some frames =>
    (State.offerNotice
      { s with store := answer.store, link := { s.link with repeatSlips := bump s.link.repeatSlips } }
      (.slip .repeat frames), answer.record, answer.prefill)

end Sys2Proof.Machine
end

