-- ==== Sys2Proof/Machine/Queues.lean ====
section
/-! DEFINITION. The string queues and the continuous slots: admission, merging, and the output modes (sections 6.1
to 6.3). -/

namespace Sys2Proof.Machine

/-- A string's queue and slots take offers: not in MUTED (R113), and not while a reset has flushed them and the note engine
has not taken it (R127). -/
def StringUnit.accepts (mode : OutputMode) (u : StringUnit) : Bool := mode != .muted && !u.refusing

/-- A STRIKE offered to the queue (R108, R110), with whether it was admitted: refused without a count where no offer is taken,
appended at 0…6, refused and counted as lost at 7 or more. -/
def offerStrike (mode : OutputMode) (record : NoteRecord) (u : StringUnit) : StringUnit × Bool :=
  if u.accepts mode = false then (u, false)
  else if u.queue.length ≤ 6 then ({ u with queue := u.queue ++ [record] }, true)
  else ({ u with counters := { u.counters with lost := bump u.counters.lost } }, false)

/-- The tail record of a full queue after a merge with a SHIFT to `note` (R109), or none when the tail is a LIFT. -/
def mergedTail (note : Nat) (correction : Bool) : NoteRecord → Option NoteRecord
  | .strike channel _ velocity stamp provisional _ => some (.strike channel note velocity stamp provisional true)
  | .shift channel _ stamp corrected _ => some (.shift channel note stamp (corrected || correction) true)
  | .lift _ _ => none

/-- The queue with its tail merged with a SHIFT to `note`, or none when there is no tail to merge with (R109). -/
def mergeQueue (note : Nat) (correction : Bool) (queue : List NoteRecord) : Option (List NoteRecord) :=
  match queue.getLast? with
  | some tail => (mergedTail note correction tail).map fun t => queue.dropLast ++ [t]
  | none => none

/-- A SHIFT dropped and counted as lost (R109, R110). -/
def dropShift (u : StringUnit) : StringUnit :=
  { u with counters := { u.counters with lost := bump u.counters.lost } }

/-- A SHIFT offered to the queue (R108, R109): refused where no offer is taken, appended at 0…6, merged or dropped at 7, dropped
at 8. -/
def offerShift (mode : OutputMode) (channel note : Nat) (stamp : Index) (correction : Bool) (u : StringUnit) :
    StringUnit :=
  if u.accepts mode = false then u
  else if u.queue.length ≤ 6 then { u with queue := u.queue ++ [.shift channel note stamp correction false] }
  else if u.queue.length = 7 then
    match mergeQueue note correction u.queue with
    | some queue => { u with queue := queue, counters := { u.counters with merged := bump u.counters.merged } }
    | none => dropShift u
  else dropShift u

/-- A LIFT offered to the queue (R108): refused where no offer is taken and at 8, else appended; its admission empties both slots
(R112). -/
def offerLift (mode : OutputMode) (stamp : Index) (cause : LiftCause) (u : StringUnit) : StringUnit :=
  if u.accepts mode = false then u
  else if u.queue.length ≤ 7 then
    { u with queue := u.queue ++ [.lift stamp cause], glide := none, press := none }
  else u

/-- A GLIDE offered to its slot (R111): refused where no offer is taken, else it replaces what the slot held. -/
def offerGlide (mode : OutputMode) (glide : Glide) (u : StringUnit) : StringUnit :=
  if u.accepts mode = false then u else { u with glide := some glide }

/-- A PRESS offered to its slot (R111). -/
def offerPress (mode : OutputMode) (press : Press) (u : StringUnit) : StringUnit :=
  if u.accepts mode = false then u else { u with press := some press }

/-- The announced flag of a note context cleared (R114). -/
def Context.unannounce : Context → Context
  | .struck note => .struck { note with announced := false }
  | .pending deadline => .pending deadline
  | .empty => .empty

/-- A LIFT placed in a flushed queue (R114, R127); both slots stand empty (R112). -/
def StringUnit.placeLift (stamp : Index) (cause : LiftCause) (u : StringUnit) : StringUnit :=
  { u with queue := [.lift stamp cause], glide := none, press := none }

/-- The MUTED entry of a string (R114). `inFlight` says that a STRIKE or SHIFT of the string is the message in
flight. -/
def mutedEntry (inFlight : Bool) (stamp : Index) (u : StringUnit) : StringUnit :=
  let flushed := { u.flush with context := u.context.unannounce }
  if u.group.isSome || inFlight then flushed.placeLift stamp .mute else flushed

/-- A STRIKE or SHIFT of string `n` is the message in flight (R114). -/
def strikesOrShifts (n : StringNo) : TxState → Bool
  | .sending m =>
    match m.item with
    | .strike n' _ _ => n' == n
    | .shift n' _ => n' == n
    | .lift _ | .other => false
  | .ready | .aborting => false

/-- What a write of the output mode does to the string's queue and slots (R113 to R115): the MUTED entry on a change
to MUTED; any other change acts through the field itself, and no change does nothing. -/
def changeMode (old new : OutputMode) (inFlight : Bool) (stamp : Index) (u : StringUnit) : StringUnit :=
  if new = .muted ∧ old ≠ .muted then mutedEntry inFlight stamp u else u

end Sys2Proof.Machine
end

