-- ==== Sys2Proof/Machine/Tracker.lean ====
section
/-! DEFINITION. The period tracker: its work on one sample, acquisition and tracking (chapters 3 and 4). -/

namespace Sys2Proof.Machine

/-- The number of intervals a candidate assumes (R37). -/
def CandidateNo.num : CandidateNo → Nat
  | .k1 => 1 | .k2 => 2 | .k3 => 3 | .k4 => 4

/-- The entry of a candidate. -/
def Candidates.get (c : Candidates) : CandidateNo → Candidate
  | .k1 => c.c1 | .k2 => c.c2 | .k3 => c.c3 | .k4 => c.c4

/-! ### Tracker time (R37) -/

/-- A time in ticks since the start, held as R37 holds it. -/
def Instant.of (exact : Nat) : Instant := { ticks := exact % 16777216, turn := exact / 16777216 }

/-- The exact time in ticks since the start. -/
def Instant.exact (i : Instant) : Nat := i.turn * 16777216 + i.ticks

/-- The exact number of samples taken since the start. -/
def Tracker.taken (t : Tracker) : Nat := t.turns * 1048576 + t.samples

/-- The sample count, held as R37 holds it. -/
def Tracker.setTaken (n : Nat) (t : Tracker) : Tracker := { t with samples := n % 1048576, turns := n / 1048576 }

/-- What a sample makes the tracker hand on, or makes due: at most one of these (R53, R68). -/
inductive TrackOutcome
  | quiet
  | report (r : Report)
  | lockDue (k : CandidateNo) (period : Nat)
  | lossDue
  | staleDue
  deriving DecidableEq, Repr

/-! ### Front end (R40 to R44) -/

/-- The low-pass value after a sample (R41). -/
def lowPass (shift : Nat) (l y : Int) : Int := saturate (l + roundAway (y - l) (2 ^ shift))

/-- The hysteresis (R42). -/
def hysteresis (shift level : Nat) : Nat := level / 2 ^ shift

/-- The zero point of a rise from `prev ≤ 0` to `l > 0` at sample `n`, in exact ticks since the start (R43). -/
def zeroPoint (n : Nat) (prev l : Int) : Nat := 16 * (n - 1) + (roundAway (16 * (-prev)) (l - prev).toNat).toNat

/-- Stages 1 to 4: the sample count, the low-pass value and the zero point (R40, R41, R43). -/
def filterSample (r : StringRecord) (y : Int) (t : Tracker) : Tracker :=
  let n := t.taken + 1
  let l := lowPass r.lowPassShift t.l y
  if t.l ≤ 0 ∧ 0 < l then
    { t.setTaken n with l := l, prevL := t.l, zero := some (.of (zeroPoint n t.l l)), zeroSinceArmed := true }
  else
    { t.setTaken n with l := l, prevL := t.l }

/-- Stage 5: the crossing detector, and whether it counts a crossing at the latest zero point (R44). -/
def detect (h : Nat) (t : Tracker) : Tracker × Bool :=
  match t.detector with
  | .disarmed => if t.l ≤ -(h : Int) then ({ t with detector := .armed, zeroSinceArmed := false }, false) else (t, false)
  | .armed => if (h : Int) ≤ t.l ∧ t.zeroSinceArmed then ({ t with detector := .disarmed }, true) else (t, false)

/-! ### History and candidates (R48 to R52) -/

/-- The history with a valid interval appended, the oldest removed past 8 (R48). -/
def appendInterval (interval : Nat) (history : List Nat) : List Nat :=
  let longer := history ++ [interval]
  longer.drop (longer.length - 8)

/-- The newest interval alone, or nothing (R50, R66). -/
def newestAlone (history : List Nat) : List Nat := history.drop (history.length - 1)

/-- The sum of the newest `k` intervals (R49, R59). -/
def newestSum (k : Nat) (history : List Nat) : Nat := (history.drop (history.length - k)).sum

/-- The sum of the `k` intervals before the newest `k` (R49). -/
def previousSum (k : Nat) (history : List Nat) : Nat :=
  ((history.drop (history.length - 2 * k)).take k).sum

/-- Two numbers agree within the tolerance: `|a − b| × 256 ≤ b × tol` (R49, R60, R63). -/
def agrees (tol a b : Nat) : Bool := ((a : Int) - b).natAbs * 256 ≤ b * tol

/-- One candidate after the tests at a counted crossing (R49). -/
def testCandidate (tol : Nat) (history : List Nat) (k : Nat) (c : Candidate) : Candidate :=
  if c.alive ∧ 2 * k ≤ history.length then
    if agrees tol (newestSum k history) (previousSum k history) then
      { alive := true, passes := bump8 c.passes, lastSum := some (newestSum k history) }
    else { c with alive := false }
  else c

/-- The candidate set after the tests at a counted crossing (R49). -/
def testCandidates (tol : Nat) (history : List Nat) (c : Candidates) : Candidates :=
  ⟨testCandidate tol history 1 c.c1, testCandidate tol history 2 c.c2, testCandidate tol history 3 c.c3,
    testCandidate tol history 4 c.c4⟩

/-- The smallest candidate that satisfies a test. -/
def Candidates.smallest (p : Candidate → Bool) (c : Candidates) : Option CandidateNo :=
  if p c.c1 then some .k1 else if p c.c2 then some .k2 else if p c.c3 then some .k3 else if p c.c4 then some .k4 else none

/-- The smallest alive candidate: k* of R51. -/
def Candidates.smallestAlive (c : Candidates) : Option CandidateNo := c.smallest fun x => x.alive

/-- The last sum of the smallest alive candidate whose pass count is 1 or more (R53, R54). -/
def Candidates.passingSum (c : Candidates) : Option Nat :=
  match c.smallest fun x => x.alive && decide (1 ≤ x.passes) with
  | some k => (c.get k).lastSum
  | none => none

/-- A search restart that keeps the given history (R46, R47, R50). -/
def restartSearch (history : List Nat) (t : Tracker) : Tracker := { t with history := history, candidates := .revived }

/-- The work of SEARCH at a counted crossing that appended a valid interval (R49 to R51, R53). The lock itself is the
LOCK step. -/
def searchCrossing (r : StringRecord) (t : Tracker) : Tracker × TrackOutcome :=
  let c := testCandidates r.tolerance t.history t.candidates
  match c.smallestAlive with
  | none => (restartSearch (newestAlone t.history) t, .quiet)
  | some k =>
    if r.confirm ≤ (c.get k).passes then
      ({ t with candidates := c, decided := true }, .lockDue k (newestSum k.num t.history * 256))
    else
      match c.passingSum with
      | some sum => ({ t with candidates := c }, .report (.searchPass sum))
      | none => ({ t with candidates := c }, .quiet)

/-! ### Tracking (R59 to R66) -/

/-- T moved toward a measurement by the loop filter (R61). -/
def loopStep (kf period measured : Nat) : Nat :=
  ((period : Int) + roundAway ((measured : Int) - period) (2 ^ kf)).toNat

/-- A miss: the miss count is increased, and lock loss is due at 3 (R64 to R66). -/
def missed (jump : Option Nat) (t : Tracker) : Tracker × TrackOutcome :=
  let misses := min 3 (t.misses + 1)
  ({ t with jump := jump, misses := misses }, if 3 ≤ misses then .lossDue else .quiet)

/-- A measurement in fine period units taken through the hit test, the jump test and the plain miss (R59 to R64). -/
def measure (r : StringRecord) (period measured : Nat) (t : Tracker) : Tracker × TrackOutcome :=
  if agrees r.tolerance measured period then
    let new := loopStep r.loopShift period measured
    ({ t with period := some new, misses := 0, jump := none }, .report (.hit new))
  else
    match t.jump with
    | some j =>
      if agrees r.tolerance measured j then
        ({ t with period := some measured, misses := 0, jump := none }, .report (.jump measured))
      else missed (some measured) t
    | none => missed (some measured) t

/-- The work of LOCKED at a counted crossing that appended a valid interval (R59): no measurement while the history
holds fewer than k intervals. -/
def lockedCrossing (r : StringRecord) (t : Tracker) : Tracker × TrackOutcome :=
  match t.k, t.period with
  | some k, some period =>
    if k.num ≤ t.history.length then measure r period (newestSum k.num t.history * 256) t else (t, .quiet)
  | _, _ => (t, .quiet)

/-- An interval outside 256…65,535 ticks (R46, R65). -/
def outOfRange (t : Tracker) : Tracker × TrackOutcome :=
  match t.lock with
  | .search => (restartSearch [] t, .quiet)
  | .locked => missed none { t with history := [] }

/-- Stage 6: what a crossing counted at the zero point `point` does; the interval is exact (R45, R46, R48). -/
def countCrossing (r : StringRecord) (point : Instant) (t : Tracker) : Tracker × TrackOutcome :=
  match t.ref with
  | none => ({ t with ref := some point, stale := 4096 }, .quiet)
  | some ref =>
    let interval := point.exact - ref.exact
    let t := { t with ref := some point, stale := 4096 }
    if 256 ≤ interval ∧ interval ≤ 65535 then
      let t := { t with history := appendInterval interval t.history }
      match t.lock with
      | .search => searchCrossing r t
      | .locked => lockedCrossing r t
    else outOfRange t

/-- Stage 7: the stale timer on a sample that counts no crossing (R47). -/
def countStale (t : Tracker) : Tracker × TrackOutcome :=
  match t.ref with
  | none => (t, .quiet)
  | some _ => ({ t with stale := t.stale - 1 }, if t.stale ≤ 1 then .staleDue else .quiet)

/-- The work of a RUNNING tracker on one sample; `level` is the envelope level as it stands (R40, R42). -/
def trackSample (r : StringRecord) (level : Nat) (y : Int) (t : Tracker) : Tracker × TrackOutcome :=
  let (t, counted) := detect (hysteresis r.hysteresisShift level) (filterSample r y t)
  match counted, t.zero with
  | true, some point => countCrossing r point t
  | _, _ => countStale t

/-! ### The steps LOCK, LOCK_LOSS and STALE_CROSSING on the tracker -/

/-- The lock (R51): LOCKED with k and T, J absent, miss count 0. A tracker restarted or stopped since the decision
does not lock (R38, R39). -/
def Tracker.takeLock (k : CandidateNo) (period : Nat) (t : Tracker) : Tracker :=
  if t.decided then
    { t with lock := .locked, k := some k, period := some period, jump := none, misses := 0, decided := false }
  else t

/-- The lock loss (R66): SEARCH, the lock items absent, the newest interval alone, the candidates revived. -/
def Tracker.takeLockLoss (t : Tracker) : Tracker :=
  if t.lock = .locked ∧ 3 ≤ t.misses then
    { t with lock := .search, k := none, period := none, jump := none, misses := 0,
             history := newestAlone t.history, candidates := .revived }
  else t

/-- The stale crossing (R47, R65): the reference crossing absent, the history cleared; the search restarted in SEARCH, a
miss with J cleared in LOCKED. Where a start or a stop has come between the sample and its held step, no reference crossing stands at
0 and nothing happens: no miss, and no lock loss of a third one (log 29, DESIGN CHOICE). -/
def Tracker.takeStale (t : Tracker) : Tracker × TrackOutcome :=
  if t.ref.isSome ∧ t.stale = 0 then outOfRange { t with ref := none } else (t, .quiet)

end Sys2Proof.Machine
end

