-- ==== Sys2Proof/Machine/Notes.lean ====
section
/-! DEFINITION. The note engine: STRIKE, note changes, continuous values and the end of a note (chapter 5). -/

namespace Sys2Proof.Machine

/-! ### Zones and velocity (R85 to R88) -/

/-- The zone search from a chain link, with at most `visits` records visited (R85). -/
def zoneSearchFrom (zones : Vector ZoneRecord 32) (raw : Nat) : Nat → Option (Fin 32) → Option ZoneRecord
  | 0, _ => none
  | _ + 1, none => none
  | visits + 1, some i =>
    let z := zones.get i
    if z.low ≤ raw ∧ raw ≤ z.high then some z else zoneSearchFrom zones raw visits z.next

/-- The zone search of a STRIKE: at most 32 visits from the zone head (R85). -/
def zoneSearch (zones : Vector ZoneRecord 32) (head : Option (Fin 32)) (raw : Nat) : Option ZoneRecord :=
  zoneSearchFrom zones raw 32 head

/-- The zone captured from a matched record (R86). -/
def ZoneRecord.copy (z : ZoneRecord) : ZoneCopy :=
  { channel := z.channel, transpose := z.transpose, mode := z.mode, bendRange := z.bendRange, curve := z.curve }

/-- A note number brought into 0…127 by whole octaves (R87): 12 added while it is below 0, 12 subtracted while it is
above 127, in closed form. -/
def fold (v : Int) : Nat :=
  if v < 0 then (v % 12).toNat
  else if 127 < v then (v - 12 * ((v - 127 + 11) / 12)).toNat
  else v.toNat

/-- The velocity of an attack peak on a curve (R88): `x = (P − A) × 15 / (S − A)` clamped to 0…15, interpolated
between the entries around it, halves away from zero. -/
def velocity (attach span peak : Nat) (curve : Curve) : Nat :=
  let num := (peak - attach) * 15
  let den := span - attach
  if 15 * den ≤ num then (if peak ≤ attach then curve[0] else curve[15])
  else
    let i := num / den
    let low : Int := (curve[i]?.getD 0 : Nat)
    let high : Int := (curve[i + 1]?.getD 0 : Nat)
    (roundAway (low * den + (high - low) * (num % den : Nat)) den).toNat

/-! ### Continuous values (R98 to R100) -/

/-- The GLIDE value of a note and whether it is clamped (R98). -/
def glideValue (z : ZoneCopy) (q held : Nat) : Int × Bool :=
  let v : Int := (q : Int) - 64 * held
  let limit : Int := 64 * z.bendRange
  (clampInt (-limit) limit v, decide (v < -limit ∨ limit < v))

/-- The GLIDE decision after a computation of Q (R99). -/
def glideDecision (r : StringRecord) (stamp : Index) (u : StringUnit) : StringUnit :=
  match u.context, u.pitch with
  | .struck note, .tracking q _ =>
    match note.zone with
    | some z =>
      let (v, clamped) := glideValue z q note.held
      if note.announced ∧ note.glideTimer = 0 ∧ r.glideStep ≤ (v - note.lastGlide).natAbs then
        offerGlide r.outputMode { channel := z.channel, value := v, stamp := stamp, clamped := clamped }
          { u with context := .struck { note with lastGlide := v, glideTimer := r.glideInterval } }
      else u
    | none => u
  | _, _ => u

/-- The PRESS decision at a pressure level (R100). -/
def pressDecision (r : StringRecord) (level : Nat) (stamp : Index) (u : StringUnit) : StringUnit :=
  match u.context, u.pitch with
  | .struck note, .tracking _ _ =>
    match note.zone with
    | some z =>
      if note.announced ∧ r.pressInterval ≠ 0 ∧ note.pressTimer = 0 ∧
          2 ≤ ((level : Int) - note.lastPress).natAbs then
        offerPress r.outputMode { channel := z.channel, level := level, stamp := stamp }
          { u with context := .struck { note with lastPress := level, pressTimer := r.pressInterval } }
      else u
    | none => u
  | _, _ => u

/-! ### The STRIKE (R90) -/

/-- A STRUCK context at its STRIKE, before the record is offered (R90). -/
def newNote (raw : Nat) (zone : Option ZoneCopy) (provisional : Bool) : Struck :=
  { held := raw, zone := zone, announced := false, provisional := provisional,
    output := zone.map fun z => fold (raw + z.transpose), glideTimer := 0, pressTimer := 0, lastGlide := 0,
    lastPress := 0 }

/-- A STRIKE made from a period (R90): discarded unless the string is in ATTACK. `atLock` tells a STRIKE at lock from a
provisional one. -/
def strike (tb : Tables) (n : StringNo) (period : Nat) (stamp : Index) (atLock : Bool) (u : StringUnit) : StringUnit :=
  if u.state = .attack then
    let r := tb.strings.get n
    let q := pitchOf tb.device period
    let raw := rawNote q
    let u := { u with state := .sounding, pitch := if atLock then .tracking q raw else .held q raw }
    match zoneSearch tb.zones r.zoneHead raw with
    | none =>
      { u with context := .struck (newNote raw none (!atLock)),
               counters := { u.counters with unzoned := bump u.counters.unzoned } }
    | some record =>
      let z := record.copy
      let note := newNote raw (some z) (!atLock)
      let v := velocity r.attach r.velocitySpan u.env.peak (tb.curves.get z.curve)
      let (u, admitted) :=
        offerStrike r.outputMode (.strike z.channel (fold (raw + z.transpose)) v stamp (!atLock) false) u
      let u := { u with context := .struck { note with announced := admitted } }
      if atLock then glideDecision r stamp u else u
  else u

/-! ### Note changes (R94 to R97) -/

/-- The held note of a STRUCK context changed: the SHIFT is made and, for an announced note, offered (R94). -/
def changeNote (r : StringRecord) (raw : Nat) (stamp : Index) (correction : Bool) (note : Struck) (u : StringUnit) :
    StringUnit :=
  match note.zone with
  | none => { u with context := .struck { note with held := raw } }
  | some z =>
    let output := fold (raw + z.transpose)
    let u := { u with context := .struck { note with held := raw, output := some output } }
    if note.announced then offerShift r.outputMode z.channel output stamp correction u else u

/-- A lock report or a jump at a STRUCK context: the held note follows N_raw (R95, R96), then the GLIDE decision. -/
def followRaw (r : StringRecord) (raw : Nat) (stamp : Index) (correction : Bool) (note : Struck) (u : StringUnit) :
    StringUnit :=
  let u :=
    if raw = note.held then { u with context := .struck note } else changeNote r raw stamp correction note u
  glideDecision r stamp u

/-- A lock report reaching the note engine (R91, R95, R96): discarded outside ATTACK and SOUNDING (R76); a STRIKE at lock
for a PENDING context; the settling of a provisional note or a relock for a STRUCK one. -/
def lockReport (tb : Tables) (n : StringNo) (period : Nat) (stamp : Index) (u : StringUnit) : StringUnit :=
  if u.state.tracked then
    match u.context with
    | .empty => u
    | .pending _ => strike tb n period stamp true u
    | .struck note =>
      let q := pitchOf tb.device period
      followRaw (tb.strings.get n) (rawNote q) stamp note.provisional { note with provisional := false }
        { u with pitch := .tracking q (rawNote q) }
  else u

/-- A jump report (R76, R96, R97): discarded while the pitch state is NONE. -/
def jumpReport (tb : Tables) (n : StringNo) (period : Nat) (stamp : Index) (u : StringUnit) : StringUnit :=
  match u.pitch, u.context with
  | .none, _ => u
  | _, .struck note =>
    let q := pitchOf tb.device period
    followRaw (tb.strings.get n) (rawNote q) stamp false note { u with pitch := .tracking q (rawNote q) }
  | _, _ => u

/-- Q lies outside the hysteresis band of the held note (R97). -/
def outsideBand (hysteresis q held : Nat) : Bool :=
  decide (64 * (held : Int) + 32 + hysteresis < q ∨ (q : Int) < 64 * (held : Int) - 32 - hysteresis)

/-- The zone mode that governs a note: a note without a zone copy follows the BEND rules (R86, R96). -/
def Struck.steps (note : Struck) : Bool :=
  match note.zone with
  | some z => z.mode == .step
  | none => false

/-- A hit report (R76, R96, R97): in a STEP zone the held note changes when Q leaves the band; then the GLIDE decision. -/
def hitReport (tb : Tables) (n : StringNo) (period : Nat) (stamp : Index) (u : StringUnit) : StringUnit :=
  match u.pitch, u.context with
  | .none, _ => u
  | _, .struck note =>
    let r := tb.strings.get n
    let q := pitchOf tb.device period
    let u := { u with pitch := .tracking q (rawNote q) }
    if note.steps && outsideBand r.noteHysteresis q note.held then
      followRaw r (rawNote q) stamp false note u
    else glideDecision r stamp u
  | _, _ => u

/-- A search-pass report: a provisional STRIKE for a PENDING context whose deadline is WAITING, else discarded (R92). -/
def searchPassReport (tb : Tables) (n : StringNo) (sum : Nat) (stamp : Index) (u : StringUnit) : StringUnit :=
  match u.context with
  | .pending .waiting => strike tb n (256 * sum) stamp false u
  | _ => u

/-- A lock-loss report: the pitch is HELD, or nothing while it is NONE (R70, R75, R76). -/
def lossReport (u : StringUnit) : StringUnit :=
  match u.pitch with
  | .none | .held _ _ => u
  | .tracking q raw => { u with pitch := .held q raw }

/-! ### Timers, attacks and endings (R82, R83, R101) -/

/-- A frame mark (R82): it counts a RUNNING deadline, whose expiry becomes due at 0, or the glide and press timers. -/
def frameMark (stamp : Index) (u : StringUnit) : StringUnit :=
  match u.context with
  | .pending (.running count) =>
    { u with context := .pending (.running (count - 1)),
             due := if count ≤ 1 then { u.due with expiry := some stamp } else u.due }
  | .struck note =>
    { u with context := .struck { note with glideTimer := note.glideTimer - 1, pressTimer := note.pressTimer - 1 } }
  | .pending .stopped | .pending .waiting | .empty => u

/-- The deadline a new PENDING context starts with (R83). -/
def newDeadline (r : StringRecord) : Deadline := if r.strikeDeadline = 0 then .stopped else .running r.strikeDeadline

/-- A note's end with a cause (R101): a LIFT offered for an announced note, then the context cleared. A PENDING context is
cleared with no record. -/
def endNote (mode : OutputMode) (stamp : Index) (cause : LiftCause) (u : StringUnit) : StringUnit :=
  match u.context with
  | .struck note => (if note.announced then offerLift mode stamp cause u else u).clearContext
  | .pending _ | .empty => u.clearContext

/-- The deadline's expiry at the note engine (R54, R91): a provisional STRIKE from the smallest passing candidate, or the
deadline WAITING. It acts on a PENDING context whose deadline has run out. -/
def expireDeadline (tb : Tables) (n : StringNo) (stamp : Index) (u : StringUnit) : StringUnit :=
  match u.context with
  | .pending (.running 0) =>
    match u.tracker.candidates.passingSum with
    | some sum => strike tb n (256 * sum) stamp false u
    | none => { u with context := .pending .waiting }
  | _ => u

end Sys2Proof.Machine
end

