-- ==== Sys2Proof/Machine/Envelope.lean ====
section
/-! DEFINITION. The envelope unit and the string state machine: the work on one cancelled sample, and the steps RELEASE
and DAMP_EXIT (chapter 2, R143). -/

namespace Sys2Proof.Machine

/-- The envelope level after a sample: the larger of its magnitude and the decayed level (R16). -/
def nextLevel (decayShift level : Nat) (y : Int) : Nat :=
  max (min y.natAbs levelMax) (level - level / 2 ^ decayShift)

/-- The pressure level (R19). -/
def pressureLevel (span level : Nat) : Nat := min 127 (127 * level / span)

/-- An attack or a re-attack (R21, R22, R29, R83): ATTACK with P and V at e, the guard loaded, the tracker restarted and a
PENDING context. R22 and R42 leave open whether the tracker can take the frame's sample after the envelope unit and before the
restart; here the restart is part of the envelope unit's act, so a sample before it reads the previous frame's e (R69; log 30, DESIGN
CHOICE). -/
def beginAttack (r : StringRecord) (level : Nat) (u : StringUnit) : StringUnit :=
  { u with state := .attack,
           env := { level := level, peak := level, valley := level, guard := r.reattackGuard, hold := 0 },
           tracker := .fresh .running, context := .pending (newDeadline r), pitch := .none,
           due := { u.due with expiry := none } }

/-- The release-hold count after a sample (R24). -/
def nextHold (r : StringRecord) (level hold : Nat) : Nat := if level < r.releaseThreshold then hold + 1 else 0

/-- The re-attack test (R29). -/
def reattacks (r : StringRecord) (v : Envelope) : Bool :=
  decide (v.guard = 0 ∧ r.attach ≤ v.level ∧ v.valley * r.reattackRatio ≤ v.level * 8)

/-- A release made due by the frame of the given index (R24). -/
def StringUnit.releaseDue (stamp : Index) (u : StringUnit) : StringUnit :=
  { u with due := { u.due with release := some stamp } }

/-- The work in IDLE (R21). -/
def envelopeIdle (r : StringRecord) (level : Nat) (u : StringUnit) : StringUnit :=
  if r.attach ≤ level then beginAttack r level u else { u with env := { u.env with level := level } }

/-- The work in ATTACK (R17, R24, R28, R82). -/
def envelopeAttack (r : StringRecord) (level : Nat) (stamp : Index) (u : StringUnit) : StringUnit :=
  let hold := nextHold r level u.env.hold
  let u := { u with env := { u.env with level := level, peak := max u.env.peak level, guard := u.env.guard - 1,
                                        hold := hold } }
  frameMark stamp (if r.releaseHold ≤ hold then u.releaseDue stamp else u)

/-- The work in SOUNDING (R18, R19, R24, R28, R29, R82). An arrival that releases makes no re-attack test and no
pressure level; one that re-attacks makes no pressure level and no mark that counts. R82 puts the mark before the pressure level,
and R103 leaves open whether a report or a request can come between; here the two are one act, and nothing does (log 31, DESIGN CHOICE). -/
def envelopeSounding (r : StringRecord) (level : Nat) (stamp : Index) (u : StringUnit) : StringUnit :=
  let hold := nextHold r level u.env.hold
  let v := { u.env with level := level, valley := min u.env.valley level, guard := u.env.guard - 1, hold := hold }
  let u := { u with env := v }
  if r.releaseHold ≤ hold then frameMark stamp (u.releaseDue stamp)
  else if reattacks r v then beginAttack r level (endNote r.outputMode stamp .reattack u)
  else pressDecision r (pressureLevel r.velocitySpan level) stamp (frameMark stamp u)

/-- The work in DAMPED (R143). -/
def envelopeDamped (r : StringRecord) (level : Nat) (u : StringUnit) : StringUnit :=
  let damp := u.damp - 1
  { u with env := { u.env with level := level }, damp := damp,
           due := { u.due with dampExit := decide (damp = 0 ∧ level < r.releaseThreshold) } }

/-- The envelope unit's work on a cancelled sample, by the string's state (R15). -/
def envelopeSample (r : StringRecord) (y : Int) (stamp : Index) (u : StringUnit) : StringUnit :=
  let level := nextLevel r.decayShift u.env.level y
  match u.state with
  | .idle => envelopeIdle r level u
  | .attack => envelopeAttack r level stamp u
  | .sounding => envelopeSounding r level stamp u
  | .damped => envelopeDamped r level u
  | .off | .faultWait | .faultTest | .faultLatched => u

/-! ### Leaving a state -/

/-- A string that goes to a state in which P, V, the guard and the hold stand at 0 and the tracker is stopped; e keeps
its value (R25, R26, R30, R142). -/
def StringUnit.settleIn (state : StringState) (u : StringUnit) : StringUnit :=
  { u.stopTracker with state := state, env := u.env.quiet }

/-- A string that goes to a state with the whole envelope at 0 and the tracker stopped (R31, R32, R34, R35). -/
def StringUnit.silenceIn (state : StringState) (u : StringUnit) : StringUnit :=
  { u.stopTracker with state := state, env := .zero, damp := 0 }

/-- A release in ATTACK: a ghost (R25). -/
def ghost (u : StringUnit) : StringUnit :=
  { (u.clearContext.settleIn .idle) with counters := { u.counters with ghosts := bump u.counters.ghosts } }

/-- The step RELEASE (R24 to R27): a ghost in ATTACK, the end of the note in SOUNDING, nothing for a string that has left
both. -/
def takeRelease (r : StringRecord) (u : StringUnit) : StringUnit :=
  match u.due.release with
  | none => u
  | some stamp =>
    let u := { u with due := { u.due with release := none } }
    match u.state with
    | .attack => ghost u
    | .sounding => (endNote r.outputMode stamp .release u).settleIn .idle
    | .off | .idle | .damped | .faultWait | .faultTest | .faultLatched => u

/-- The step DAMP_EXIT (R143): a DAMPED string whose damp timer stands at 0 goes to IDLE. That e is below the release threshold
was judged by the arrival that made the step due, with the record as it then stood (R33). A DAMP taken in between has loaded the
timer again: with a damp time above 0 it keeps the string DAMPED, and with 0 the string goes to IDLE at this step, with no further
arrival (log 1, DESIGN CHOICE). -/
def takeDampExit (u : StringUnit) : StringUnit :=
  if u.due.dampExit then
    let u := { u with due := { u.due with dampExit := false } }
    if u.state = .damped ∧ u.damp = 0 then { u with state := .idle } else u
  else u

/-- The forced end of a string's tracking (R31, R32, R34): the note ends with its cause in SOUNDING, a PENDING context is
cleared in ATTACK. -/
def endForced (mode : OutputMode) (stamp : Index) (cause : LiftCause) (u : StringUnit) : StringUnit :=
  match u.state with
  | .sounding => endNote mode stamp cause u
  | .attack => u.clearContext
  | .off | .idle | .damped | .faultWait | .faultTest | .faultLatched => u

/-- A DAMP of a string (R142), with whether it had an effect. -/
def dampString (r : StringRecord) (stamp : Index) (u : StringUnit) : StringUnit × Bool :=
  match u.state with
  | .sounding => ({ ((endNote r.outputMode stamp .forced u).settleIn .damped) with damp := r.dampTime }, true)
  | .attack => ({ (u.clearContext.settleIn .damped) with damp := r.dampTime }, true)
  | .damped => ({ u with damp := r.dampTime }, true)
  | .off | .idle | .faultWait | .faultTest | .faultLatched => (u, false)

/-- What a write of the enable field does to the string (R32, R145). -/
def changeEnable (old new : Bool) (mode : OutputMode) (stamp : Index) (u : StringUnit) : StringUnit :=
  if old = new then u
  else if new then
    if u.state = .off then { (u.silenceIn .idle) with monitor := .clear } else u
  else
    { ((endForced mode stamp .disabled u).silenceIn .off) with monitor := .clear, due := { Due.none with lockLoss := u.due.lockLoss } }

/-- What the pickup receiver's entry to HUNT does to a string (R34, R145). -/
def huntString (r : StringRecord) (stamp : Index) (u : StringUnit) : StringUnit :=
  let monitor := { u.monitor with clipRun := 0, stuckRun := 0, flagSeen := false, last := none }
  match u.state with
  | .attack | .sounding | .damped | .idle =>
    { ((endForced r.outputMode stamp .link u).silenceIn .idle) with monitor := monitor }
  | .off | .faultWait | .faultTest | .faultLatched => { u with monitor := monitor }

/-- What a reset does to a string's state, tracker, note engine and fault monitor (R35, R56, R105, R146): every string
IDLE, but under RESET TRACKING an OFF string stays OFF. Its queue takes offers again (R127). -/
def resetString (full : Bool) (u : StringUnit) : StringUnit :=
  { (u.clearContext.silenceIn (if u.state = .off ∧ !full then .off else .idle)) with
      monitor := .clear, due := .none, refusing := false }

end Sys2Proof.Machine
end

