-- ==== Sys2Proof/Machine/Faults.lean ====
section
/-! DEFINITION. The fault monitor: its work on one frame, and the steps FAULT_ENTRY, FAULT_WAIT_END and RECOVERY
(chapter 7). -/

namespace Sys2Proof.Machine

/-- The runs and the flag seen after a frame (R132). -/
def updateRuns (r : StringRecord) (x : Int) (channelError : Bool) (m : Monitor) : Monitor :=
  { m with clipRun := if r.clipLevel ≤ x.natAbs then bump8 m.clipRun else 0,
           stuckRun := if x = 0 then 0 else if m.last = some x then bump m.stuckRun else 1,
           last := some x,
           flagSeen := channelError && r.converterFlagUse }

/-- The condition present, the first of CONVERTER, CLIP and STUCK (R133). -/
def conditionPresent (r : StringRecord) (m : Monitor) : Option Cause :=
  if m.flagSeen then some .converter
  else if r.clipCount ≤ m.clipRun then some .clip
  else if 256 * r.stuckCount ≤ m.stuckRun then some .stuck
  else none

/-- A frame in FAULT_WAIT (R136). -/
def countWait (u : StringUnit) : StringUnit :=
  let wait := u.monitor.wait - 1
  { u with monitor := { u.monitor with wait := wait }, due := { u.due with waitEnd := decide (wait = 0) } }

/-- A frame judged in FAULT_TEST (R137). -/
def judgeTest (r : StringRecord) (u : StringUnit) : StringUnit :=
  match conditionPresent r u.monitor with
  | some cause =>
    { u with state := .faultWait,
             monitor := { u.monitor with wait := 1024 * r.faultWait, test := 0, retries := bump8 u.monitor.retries,
                                         cause := some cause },
             counters := { u.counters with retries := bump u.counters.retries } }
  | none =>
    let test := u.monitor.test - 1
    { u with monitor := { u.monitor with test := test }, due := { u.due with recovery := decide (test = 0) } }

/-- The fault monitor's work on a raw sample and its channel-error flag (R132, R134, R136, R137). An entry is made due;
the FAULT_ENTRY step takes it. A string enabled while a frame is in process takes that frame here if its monitor has not yet, where
R145 speaks of the next frame and R132 of what arrives (log 33, DESIGN CHOICE). -/
def monitorSample (r : StringRecord) (x : Int) (channelError : Bool) (stamp : Index) (u : StringUnit) : StringUnit :=
  match u.state with
  | .off => u
  | .idle | .attack | .sounding | .damped =>
    let m := updateRuns r x channelError u.monitor
    { u with monitor := m, due := { u.due with fault := (conditionPresent r m).map fun c => (c, stamp) } }
  | .faultWait => countWait { u with monitor := updateRuns r x channelError u.monitor }
  | .faultTest => judgeTest r { u with monitor := updateRuns r x channelError u.monitor }
  | .faultLatched => { u with monitor := updateRuns r x channelError u.monitor }

/-- A string that enters a fault (R31, R134 steps 1 to 3 and 5). -/
def enterFault (r : StringRecord) (cause : Cause) (stamp : Index) (u : StringUnit) : StringUnit :=
  let v := (endForced r.outputMode stamp .fault u).silenceIn (if r.faultLatch then .faultLatched else .faultWait)
  { v with monitor := { u.monitor with cause := some cause, retries := 0,
                                       wait := if r.faultLatch then 0 else 1024 * r.faultWait, test := 0 },
           counters := { v.counters with faults := bump v.counters.faults } }

/-- A string that leaves its fault state for IDLE (R138, R140). -/
def recoverString (u : StringUnit) : StringUnit :=
  { (u.silenceIn .idle) with monitor := { u.monitor with cause := none, wait := 0, test := 0 } }

/-- The step FAULT_ENTRY (R31, R134, R135): taken from IDLE, ATTACK, SOUNDING or DAMPED, with a FAULT notice; discarded in
OFF and the fault states. -/
def takeFaultEntry (n : StringNo) (s : State) : State :=
  match (s.unit n).due.fault with
  | none => s
  | some (cause, stamp) =>
    let s := s.modUnit n fun u => { u with due := { u.due with fault := none } }
    match (s.unit n).state with
    | .idle | .attack | .sounding | .damped =>
      (s.modUnit n (enterFault (s.record n) cause stamp)).offerNotice (.fault n cause)
    | .off | .faultWait | .faultTest | .faultLatched => s

/-- The step FAULT_WAIT_END (R136): FAULT_TEST with the test timer loaded. -/
def takeWaitEnd (r : StringRecord) (u : StringUnit) : StringUnit :=
  if u.due.waitEnd then
    let u := { u with due := { u.due with waitEnd := false } }
    if u.state = .faultWait ∧ u.monitor.wait = 0 then
      { u with state := .faultTest, monitor := { u.monitor with test := 256 * r.faultTest } }
    else u
  else u

/-- The step RECOVERY (R138): IDLE from FAULT_TEST, with a RECOVER notice. -/
def takeRecovery (n : StringNo) (s : State) : State :=
  if (s.unit n).due.recovery then
    let s := s.modUnit n fun u => { u with due := { u.due with recovery := false } }
    if (s.unit n).state = .faultTest ∧ (s.unit n).monitor.test = 0 then
      (s.modUnit n recoverString).offerNotice (.recover n)
    else s
  else s

end Sys2Proof.Machine
end

