-- ==== Sys2Proof/Machine/Events.lean ====
section
/-! DEFINITION. The steps a string's own arrivals raise, taken: LOCK, LOCK_LOSS, STALE_CROSSING,
STRIKE_DEADLINE_EXPIRY, RELEASE, DAMP_EXIT, FAULT_ENTRY, FAULT_WAIT_END and RECOVERY, the hand-over of the tracker's
reports, and what makes the tracker's steps due. A step that is not due does nothing (log 2). -/

namespace Sys2Proof.Machine

/-- What a sample's outcome makes due: a report on its way to the note engine, or a step (R53, R68). -/
def takeOutcome (stamp : Index) (outcome : TrackOutcome) (u : StringUnit) : StringUnit :=
  match outcome with
  | .quiet => u
  | .report report => { u with due := { u.due with report := some (report, stamp) } }
  | .lockDue k period => { u with due := { u.due with lock := some { k := k, period := period, stamp := stamp } } }
  | .lossDue => { u with due := { u.due with lockLoss := some stamp } }
  | .staleDue => { u with due := { u.due with stale := some stamp } }

/-- The period tracker's work on a cancelled sample (R39, R40). -/
def trackerSample (tb : Tables) (n : StringNo) (y : Int) (stamp : Index) (u : StringUnit) : StringUnit :=
  match u.tracker.run with
  | .stopped => u
  | .running =>
    let (t, outcome) := trackSample (tb.strings.get n) u.env.level y u.tracker
    takeOutcome stamp outcome { u with tracker := t }

/-- A report taken by the note engine, against the context as it then stands (R76, R92, R103): one made before a re-attack or
the end of the note, and taken after it, is discarded (R69). -/
def takeReport (tb : Tables) (n : StringNo) (u : StringUnit) : StringUnit :=
  match u.due.report with
  | none => u
  | some (report, stamp) =>
    let u := { u with due := { u.due with report := none } }
    match report with
    | .hit period => hitReport tb n period stamp u
    | .jump period => jumpReport tb n period stamp u
    | .searchPass sum => searchPassReport tb n sum stamp u

/-- The step LOCK (R51, R53, R91, R95, R96): the tracker locks, unless it has been restarted or stopped since the
decision, and the lock report reaches the note engine. -/
def takeLock (tb : Tables) (n : StringNo) (u : StringUnit) : StringUnit :=
  match u.due.lock with
  | none => u
  | some report =>
    lockReport tb n report.period report.stamp
      { u with tracker := u.tracker.takeLock report.k report.period, due := { u.due with lock := none } }

/-- The step LOCK_LOSS (R66): the tracker returns to SEARCH, the loss is counted, and the report holds the pitch. -/
def takeLockLoss (u : StringUnit) : StringUnit :=
  match u.due.lockLoss with
  | none => u
  | some _ =>
    lossReport { u with tracker := u.tracker.takeLockLoss, due := { u.due with lockLoss := none },
                        counters := { u.counters with lockLosses := bump u.counters.lockLosses } }

/-- The step STALE_CROSSING (R47, R65): it may make a lock loss due. Held until its tracker has been restarted or stopped, or dropped
by a disable, it makes none (log 29, DESIGN CHOICE). -/
def takeStale (u : StringUnit) : StringUnit :=
  match u.due.stale with
  | none => u
  | some stamp =>
    let (t, outcome) := u.tracker.takeStale
    takeOutcome stamp outcome { u with tracker := t, due := { u.due with stale := none } }

/-- The step STRIKE_DEADLINE_EXPIRY (R54, R91). A lock that is due is taken before it: R54 knows the expiry before a
crossing's tests and after its report, not between (log 21). -/
def takeExpiry (tb : Tables) (n : StringNo) (u : StringUnit) : StringUnit :=
  match u.due.expiry with
  | none => u
  | some stamp =>
    let u := takeLock tb n u
    expireDeadline tb n stamp { u with due := { u.due with expiry := none } }

/-- A due event of string `n` taken. -/
def State.takeEvent (n : StringNo) (e : Event) (s : State) : State :=
  match e with
  | .report => s.modUnit n (takeReport s.tables n)
  | .release => s.modUnit n (takeRelease (s.record n))
  | .strikeDeadlineExpiry => s.modUnit n (takeExpiry s.tables n)
  | .dampExit => s.modUnit n takeDampExit
  | .staleCrossing => s.modUnit n takeStale
  | .lockLoss => s.modUnit n takeLockLoss
  | .lock => s.modUnit n (takeLock s.tables n)
  | .faultEntry => takeFaultEntry n s
  | .faultWaitEnd => s.modUnit n (takeWaitEnd (s.record n))
  | .recovery => takeRecovery n s

/-- The canonical order of a string's due events, which an order's acts may change. The spec picks none; so an expiry due beside a
stale crossing reads the candidates before R47 revives them, unless an act takes the stale crossing first (R40, R54; log 32, DESIGN
CHOICE). -/
def Event.canonical : List Event :=
  [.report, .release, .strikeDeadlineExpiry, .dampExit, .staleCrossing, .lockLoss, .lock, .faultEntry, .faultWaitEnd, .recovery]

/-- Every due event of string `n` taken, in the canonical order. -/
def State.settle (n : StringNo) (s : State) : State := Event.canonical.foldl (fun s e => s.takeEvent n e) s

/-- Every due event taken of every string but those that wait. -/
def State.settleBut (waits : Six Bool) (s : State) : State :=
  StringNo.all.foldl (fun s n => if waits.get n then s else s.settle n) s

/-- Every due event of every string taken. -/
def State.settleAll (s : State) : State := s.settleBut (Six.same false)

/-- The step LOCK of string `n`. -/
def execLock (n : StringNo) (s : State) : Host.Outcome State Fault Refusal := .next (s.takeEvent n .lock)

/-- The step LOCK_LOSS of string `n`. -/
def execLockLoss (n : StringNo) (s : State) : Host.Outcome State Fault Refusal := .next (s.takeEvent n .lockLoss)

/-- The step STALE_CROSSING of string `n`. -/
def execStaleCrossing (n : StringNo) (s : State) : Host.Outcome State Fault Refusal :=
  .next (s.takeEvent n .staleCrossing)

/-- The step STRIKE_DEADLINE_EXPIRY of string `n`. -/
def execStrikeDeadlineExpiry (n : StringNo) (s : State) : Host.Outcome State Fault Refusal :=
  .next (s.takeEvent n .strikeDeadlineExpiry)

/-- The step RELEASE of string `n`. -/
def execRelease (n : StringNo) (s : State) : Host.Outcome State Fault Refusal := .next (s.takeEvent n .release)

/-- The step FAULT_ENTRY of string `n`. -/
def execFaultEntry (n : StringNo) (s : State) : Host.Outcome State Fault Refusal := .next (s.takeEvent n .faultEntry)

/-- The step FAULT_WAIT_END of string `n`. -/
def execFaultWaitEnd (n : StringNo) (s : State) : Host.Outcome State Fault Refusal :=
  .next (s.takeEvent n .faultWaitEnd)

/-- The step RECOVERY of string `n`. -/
def execRecovery (n : StringNo) (s : State) : Host.Outcome State Fault Refusal := .next (s.takeEvent n .recovery)

/-- The step DAMP_EXIT of string `n`. -/
def execDampExit (n : StringNo) (s : State) : Host.Outcome State Fault Refusal := .next (s.takeEvent n .dampExit)

end Sys2Proof.Machine
end

