-- ==== Sys2Proof/Machine/SideChannel.lean ====
section
/-! DEFINITION. What the two links share: the frame receivers, the side-channel receivers, the message checks and the relay
buffers (sections 9.2, 9.3, 9.5, 9.7). -/

namespace Sys2Proof.Machine

/-! ### Frame receivers (R162, R165) -/

/-- A frame time judged, with whether its frame is taken. A frame that brings a run to its limit leaves the entry to HUNT
or SYNC due: the run count stands at the limit (R162). -/
def Receiver.judge (good : Bool) (r : Receiver) : Receiver × Bool :=
  match r.state with
  | .hunt => ({ r with good := if good then r.good + 1 else 0 }, false)
  | .sync => if good then ({ r with bad := 0 }, true) else ({ r with bad := r.bad + 1 }, decide (r.bad + 1 < 3))

/-- The bad-sync run has reached 3 in SYNC (R162). -/
def Receiver.huntDue (r : Receiver) : Bool := r.state == .sync && decide (3 ≤ r.bad)

/-- The good-sync run has reached 2 in HUNT (R162). -/
def Receiver.syncDue (r : Receiver) : Bool := r.state == .hunt && decide (2 ≤ r.good)

/-- The receiver in HUNT, the count back at 0 (R162). -/
def Receiver.toHunt (r : Receiver) : Receiver := { r with state := .hunt, bad := 0 }

/-- The receiver in SYNC, the count back at 0 (R162). -/
def Receiver.toSync (r : Receiver) : Receiver := { r with state := .sync, good := 0 }

/-! ### Side-channel receivers (R168, R169) -/

/-- What a side byte makes of the open message. -/
inductive SideEvent
  | none
  | abort
  | long
  | complete (message : List Byte)
  deriving DecidableEq, Repr

/-- A side byte and tag taken by a side-channel receiver (R168, R169). -/
def takeSideByte (tag : Tag) (b : Byte) (r : SideReceiver) : SideReceiver × SideEvent :=
  match tag, r with
  | .first, none => (some [b], .none)
  | .first, some _ => (some [b], .abort)
  | .mid, none => (none, .none)
  | .mid, some buffer => if 64 ≤ buffer.length then (none, .long) else (some (buffer ++ [b]), .none)
  | .last, none => (none, .none)
  | .last, some buffer => if 64 ≤ buffer.length then (none, .long) else (none, .complete (buffer ++ [b]))
  | .idle, none => (none, .none)
  | .idle, some _ => (none, .abort)

/-- An abort counted (R168). -/
def State.countAbort (s : State) : State := { s with link := { s.link with aborts := bump s.link.aborts } }

/-- A long message counted (R169). -/
def State.countLong (s : State) : State := { s with link := { s.link with long := bump s.link.long } }

/-- The check of a completed message: discarded and counted when it is long (R169), short or has a bad CRC, else delivered
(R170). A receiver hands over no message over 64 bytes (R169): that branch is for the bytes of a command (log 22, DESIGN CHOICE). -/
def State.checkMessage (message : List Byte) (s : State) : State × Option (List Byte) :=
  if 64 < message.length then (s.countLong, none)
  else if message.length < 4 then ({ s with link := { s.link with short := bump s.link.short } }, none)
  else if crcGood message then (s, some message)
  else ({ s with link := { s.link with badCrc := bump s.link.badCrc } }, none)

/-! ### The relay (R173) -/

/-- A message dropped by a full relay buffer (R173). -/
def State.countRelayDrop (s : State) : State := { s with link := { s.link with relayDrops := bump s.link.relayDrops } }

/-- A message offered to relay-up: appended at 0 or 1, else dropped and counted (R173). -/
def State.offerUp (message : List Byte) (s : State) : State :=
  if s.relayUp.length ≤ 1 then { s with relayUp := s.relayUp ++ [message] } else s.countRelayDrop

/-- A message offered to relay-down: appended at 0 or 1, else dropped and counted (R173). -/
def State.offerDown (message : List Byte) (s : State) : State :=
  if s.relayDown.length ≤ 1 then { s with relayDown := s.relayDown ++ [message] } else s.countRelayDrop

/-- A message completed on the pickup forward receiver: checked, then offered to relay-down whatever its address
(R170, R172). -/
def State.converterMessage (message : List Byte) (s : State) : State :=
  match s.checkMessage message with
  | (s, some m) => s.offerDown m
  | (s, none) => s

/-- Where a delivered message goes by its address byte (R172). -/
inductive Route
  | allCall | own | relay | discard
  deriving DecidableEq, Repr

/-- Address recognition (R172). -/
def routeOf (own : Nat) (address : Byte) : Route :=
  if address = 0#8 then .allCall
  else if address = byte own then .own
  else if address.toNat ≤ 0x7E then .relay
  else .discard

/-- The relay's side of a message delivered by the synth return receiver: all-call and other devices' messages to
relay-up, the part's own to none, the rest discarded and counted (R172, R173). -/
def State.relayUpSide (message : List Byte) (s : State) : State :=
  match routeOf s.tables.device.address (message.headD 0) with
  | .allCall | .relay => s.offerUp message
  | .own => s
  | .discard => { s with link := { s.link with badAddress := bump s.link.badAddress } }

/-- The step CONVERTER_MESSAGE (R170, R173): the bytes of a message completed on the pickup forward side channel, checked here
(log 22, DESIGN CHOICE). Nothing arrives there while the pickup receiver is in HUNT (R162; log 8). -/
def execConverterMessage (message : List Byte) (s : State) : Host.Outcome State Fault Refusal :=
  .next (match s.pickup.receiver.state with
    | .sync => s.converterMessage message
    | .hunt => s)

/-- The step RELAY_UP_MESSAGE (R172, R173): the bytes of a message completed on the synth return side channel, at the relay,
checked here (log 22, DESIGN CHOICE). Nothing arrives there while the line clock is ABSENT (R164; log 8). The command says that
a message has been completed, so it is taken in SYNC and in HUNT alike (log 8, DESIGN CHOICE). -/
def execRelayUpMessage (message : List Byte) (s : State) : Host.Outcome State Fault Refusal :=
  .next (match s.synth.clock with
    | .present =>
      match s.checkMessage message with
      | (s, some m) => s.relayUpSide m
      | (s, none) => s
    | .absent => s)

end Sys2Proof.Machine
end

