-- ==== Sys2Proof/Machine/PickupLink.lean ====
section
/-! DEFINITION. The pickup link interface and the work on a pickup forward frame: PICKUP_FORWARD_FRAME,
PICKUP_HUNT_ENTRY and PICKUP_SYNC_ENTRY (R1, R11, R161 to R163, R167). -/

namespace Sys2Proof.Machine

/-! ### The pickup return transmitter (R167) -/

/-- The tag of the byte at a position of a message (R119, R167). -/
def positionTag (length position : Nat) : Tag :=
  if position = 0 then .first else if position + 1 = length then .last else .mid

/-- The byte at a position of a message sent to the converter, and the transmitter after it (R167). -/
def sendReturn (message : List Byte) (position : Nat) : ReturnTx × Tag × Byte :=
  (if message.length ≤ position + 1 then .ready else .sending message (position + 1),
    positionTag message.length position, message.getD position 0)

/-- The pickup return frame of an accepted frame (R167). -/
def State.sendReturnFrame (s : State) : State :=
  match s.pickup.ret, s.relayUp with
  | .sending message position, _ =>
    let (ret, tag, b) := sendReturn message position
    { s with pickup := { s.pickup with ret := ret }, pickupOut := some (pickupReturnFrame tag b) }
  | .ready, message :: rest =>
    let (ret, tag, b) := sendReturn message 0
    { s with pickup := { s.pickup with ret := ret }, relayUp := rest, pickupOut := some (pickupReturnFrame tag b) }
  | .ready, [] => { s with pickupOut := some (pickupReturnFrame .idle 0) }

/-- The message in flight to the converter set back to its first byte (R163, R167). -/
def ReturnTx.rewind : ReturnTx → ReturnTx
  | .sending message _ => .sending message 0
  | .ready => .ready

/-- The side byte of an accepted frame handed to the pickup forward side-channel receiver (R1, R168, R170). -/
def State.pickupSideByte (tag : Tag) (b : Byte) (s : State) : State :=
  let (side, event) := takeSideByte tag b s.pickup.side
  let s := { s with pickup := { s.pickup with side := side } }
  match event with
  | .none => s
  | .abort => s.countAbort
  | .long => s.countLong
  | .complete message => s.converterMessage message

/-! ### Entries to HUNT and SYNC (R163) -/

/-- The string units after the pickup receiver's entry to HUNT (R34, R145). -/
def State.huntUnits (s : State) : Six StringUnit :=
  Six.ofFn fun n => huntString (s.record n) s.index (s.unit n)

/-- The pickup receiver's entry to HUNT (R163). -/
def State.pickupHuntEntry (s : State) : State :=
  State.offerNotice
    { s with units := s.huntUnits, store := s.store.huntFlush,
             pickup := { receiver := s.pickup.receiver.toHunt, side := none, ret := s.pickup.ret.rewind },
             link := { s.link with pickupSyncLosses := bump s.link.pickupSyncLosses } }
    (.link .pickupDown)

/-- The pickup receiver's entry to SYNC (R163). -/
def State.pickupSyncEntry (s : State) : State :=
  State.offerNotice { s with pickup := { s.pickup with receiver := s.pickup.receiver.toSync } } (.link .pickupUp)

/-- The step PICKUP_HUNT_ENTRY, when the bad-sync run has reached 3. -/
def State.takePickupHunt (s : State) : State := if s.pickup.receiver.huntDue then s.pickupHuntEntry else s

/-- The step PICKUP_SYNC_ENTRY, when the good-sync run has reached 2. -/
def State.takePickupSync (s : State) : State := if s.pickup.receiver.syncDue then s.pickupSyncEntry else s

/-- The entry of the pickup receiver that is due, if one is. -/
def State.settlePickup (s : State) : State :=
  match s.pickup.receiver.state with
  | .sync => s.takePickupHunt
  | .hunt => s.takePickupSync

/-! ### The work on an accepted frame -/

/-- A frame that no block has taken yet. -/
def Work.start (bits : FrameBits) (index : Index) : Work :=
  { raw := Six.ofFn (frameSample bits), flags := Six.ofFn (frameFlag bits), index := index, y := none, offered := false,
    enveloped := Six.same false, tracked := Six.same false, monitored := Six.same false }

/-- The frame's cancelled samples: those the canceller formed, or those it forms now (R4 to R7). -/
def Work.cancelled (w : Work) (s : State) : Six Int :=
  match w.y with
  | some y => y
  | none => cancel s.tables.matrix s.states w.raw

/-- One block's part of the work; a block takes a frame once. -/
def runAct (ws : Work × State) (act : FrameAct) : Work × State :=
  let (w, s) := ws
  let y := w.cancelled s
  match act with
  | .cancel => ({ w with y := some y }, s)
  | .store =>
    if w.offered then (w, s)
    else ({ w with y := some y, offered := true }, s.offerRecord (s.frameRecord w.raw y w.index))
  | .envelope n =>
    if w.enveloped.get n then (w, s)
    else ({ w with y := some y, enveloped := w.enveloped.set n true },
          s.modUnit n (envelopeSample (s.record n) (y.get n) w.index))
  | .tracker n =>
    if w.tracked.get n then (w, s)
    else ({ w with y := some y, tracked := w.tracked.set n true },
          s.modUnit n (trackerSample s.tables n (y.get n) w.index))
  | .monitor n =>
    if w.monitored.get n then (w, s)
    else ({ w with monitored := w.monitored.set n true },
          s.modUnit n (monitorSample (s.record n) (w.raw.get n) (w.flags.get n) w.index))
  | .take n e => (w, s.takeEvent n e)
  | .settle n => (w, s.settle n)

/-- The due events of a string taken, unless they are left due. -/
def settleActs (hold : Bool) (n : StringNo) : List FrameAct := if hold then [] else [.settle n]

/-- Every block has taken the frame. -/
def Work.done (w : Work) : Bool :=
  w.offered && (w.enveloped.toList ++ w.tracked.toList ++ w.monitored.toList).all id

/-- A string's tracker takes its sample, and its due events are taken, unless they are left due. -/
def trackerActs (hold : Bool) (n : StringNo) : List FrameAct := .tracker n :: settleActs hold n

/-- The canonical order of a frame's work: the canceller, the store unless its record is to wait, then each string's
envelope unit and tracker, then the fault monitors, with due events taken as they arise (log 3). The tracker and the due events
of a string that waits are left out. -/
def canonicalActs (hold recordLater : Bool) (waits : Six Bool) : List FrameAct :=
  (.cancel :: if recordLater then [] else [.store]) ++
    StringNo.all.flatMap (fun n =>
      .envelope n :: settleActs (hold || waits.get n) n ++ if waits.get n then [] else trackerActs hold n) ++
    StringNo.all.flatMap fun n => .monitor n :: settleActs (hold || waits.get n) n

/-- Blocks' parts of the work on a frame, in the given order; a frame that every block has taken is no longer in process
(R7, R11, R14). -/
def State.runFrame (w : Work) (acts : List FrameAct) (s : State) : State :=
  let (w, s) := acts.foldl runAct (w, s)
  { s with inProcess := if w.done then none else some w }

/-- The acts of a frame time: the order's own, then the canonical ones unless the order pauses. -/
def frameActs (order : FrameOrder) : List FrameAct :=
  order.acts ++ if order.pause then [] else canonicalActs order.hold order.recordLater (Six.same false)

/-- An accepted frame (R1, R167): the index advances, the side byte goes to the relay's receiver, a return frame is sent,
and the blocks take the frame. R1 gives no order of the relay against the other blocks; here the side byte and the return frame
come first (log 3, DESIGN CHOICE). -/
def State.acceptFrame (bits : FrameBits) (order : FrameOrder) (s : State) : State :=
  let index := s.index + 1
  let s := { s with index := index }
  let s := s.pickupSideByte (pickupTag bits) (pickupSide bits)
  s.sendReturnFrame.runFrame (Work.start bits index) (frameActs order)

/-- What an earlier frame left in process, but its record and what waits, taken before the next frame time: by the given acts
first, then in the canonical order. In HUNT no sample reaches a block (R12, R34). -/
def State.resume (before : List FrameAct) (waits : Six Bool) (s : State) : State :=
  match s.inProcess, s.pickup.receiver.state with
  | some w, .sync => s.runFrame w (before ++ canonicalActs false true waits)
  | _, _ => s

/-- Acts on the frame still in process, if there is one. -/
def State.runLeft (acts : List FrameAct) (s : State) : State :=
  match s.inProcess with
  | none => s
  | some w => s.runFrame w acts

/-- What waited for the judgement of a frame time: the record still in process offered to the store (R11, R156); then, unless it
waits on, each tracker's sample (R69) and every due event. A tracker stopped by the entry to HUNT discards the sample. -/
def State.finishLeft (waitsOn : Bool) (s : State) : State :=
  let s := s.runLeft [.store]
  if waitsOn then s else (s.runLeft (StringNo.all.map .tracker)).settleAll

/-- The bits of a frame time: those on the line, or a free value when the line carries no edges (R162; log 4). -/
def frameBits (frame : Option FrameBits) (drawn : Nat) : FrameBits :=
  match frame with
  | some bits => bits
  | none => Config.silentFrame drawn

/-- A frame time has good sync: the line carries edges and the pattern (R162, R190). -/
def frameGood (frame : Option FrameBits) : Bool :=
  match frame with
  | some bits => goodSync bits
  | none => false

/-- A frame time judged by the pickup receiver, with whether its frame is accepted (R162, R163). -/
def State.judgePickup (good hold : Bool) (s : State) : State × Bool :=
  let (receiver, taken) := s.pickup.receiver.judge good
  let s := { s with pickup := { s.pickup with receiver := receiver } }
  (if hold then s else s.settlePickup, taken)

/-- A pickup forward frame time (R162): what earlier frames left in process and left due is taken, the frame is judged, and
it is accepted or discarded. A record still in process, and the trackers' samples and due events of the strings for which the
order puts the entry to HUNT first, are taken once the frame time has been judged (R69, R156); envelope units and fault monitors
take their samples before, since no sample reaches them in HUNT (R34, R145; log 3). -/
def State.pickupFrame (frame : Option FrameBits) (order : FrameOrder) (s : State) : State :=
  let bits := frameBits frame s.drawn
  let s := ((s.resume order.before order.entryFirst).settleBut order.entryFirst).settlePickup
  let s := { s with drawn := s.drawn + (if frame.isNone then 1 else 0), pickupOut := none }
  let (s, taken) := s.judgePickup (frameGood frame) order.hold
  let s := s.finishLeft (order.hold && !taken)
  if taken then s.acceptFrame bits order else s

/-- The step PICKUP_FORWARD_FRAME (R162). -/
def execPickupForwardFrame (frame : Option FrameBits) (order : FrameOrder) (s : State) :
    Host.Outcome State Fault Refusal := .next (s.pickupFrame frame order)

/-- The step PICKUP_HUNT_ENTRY (R163). -/
def execPickupHuntEntry (s : State) : Host.Outcome State Fault Refusal := .next s.takePickupHunt

/-- The step PICKUP_SYNC_ENTRY (R163). -/
def execPickupSyncEntry (s : State) : Host.Outcome State Fault Refusal := .next s.takePickupSync

end Sys2Proof.Machine
end

