-- ==== Sys2Proof/Machine/Transmit.lean ====
section
/-! DEFINITION. The event transmitter and the synth forward frame: SYNTH_FORWARD_FRAME and TRANSMISSION_COMPLETE
(sections 6.5 and 6.6, R166). -/

namespace Sys2Proof.Machine

/-! ### Takes (R120 to R123) -/

/-- The strings in round-robin order from the one after a pointer, the pointer's own last (R120). -/
def roundRobin : StringNo → List StringNo
  | .s1 => [.s2, .s3, .s4, .s5, .s6, .s1]
  | .s2 => [.s3, .s4, .s5, .s6, .s1, .s2]
  | .s3 => [.s4, .s5, .s6, .s1, .s2, .s3]
  | .s4 => [.s5, .s6, .s1, .s2, .s3, .s4]
  | .s5 => [.s6, .s1, .s2, .s3, .s4, .s5]
  | .s6 => [.s1, .s2, .s3, .s4, .s5, .s6]

/-- A string's queue is eligible for a take: ACTIVE or MUTED and not empty (R113, R120). -/
def State.queueEligible (s : State) (n : StringNo) : Bool :=
  (s.record n).outputMode != .frozen && !(s.unit n).queue.isEmpty

/-- A string's slots are eligible for a take: ACTIVE, its queue empty and a slot full (R113, R120). -/
def State.slotEligible (s : State) (n : StringNo) : Bool :=
  (s.record n).outputMode == .active && (s.unit n).queue.isEmpty &&
    ((s.unit n).glide.isSome || (s.unit n).press.isSome)

/-- A message about to be sent, at its first byte. -/
def InFlight.start (item : TxItem) (bytes : List Byte) : InFlight := { item := item, bytes := bytes, position := 0 }

/-- The message a taken note record becomes, or none when it is discarded (R121, R123): a SHIFT or a LIFT without an open
group. A LIFT's channel and note are filled from the group. -/
def noteMessage (device : DeviceRecord) (n : StringNo) (group : Option Group) : NoteRecord → Option InFlight
  | .strike channel note velocity stamp provisional merged =>
    some (.start (.strike n channel note)
      (message device kindStrike (strikeBody n channel note velocity stamp provisional merged)))
  | .shift channel note stamp correction merged =>
    group.map fun _ =>
      .start (.shift n note) (message device kindShift (shiftBody n channel note stamp correction merged))
  | .lift stamp cause =>
    group.map fun g => .start (.lift n) (message device kindLift (liftBody n g stamp cause))

/-- The head record of a string's queue taken, the queue pointer set (R120, R121). -/
def State.takeQueue (n : StringNo) (s : State) : State × Option InFlight :=
  match (s.unit n).queue with
  | [] => (s, none)
  | record :: rest =>
    let s := { s with tx := { s.tx with queuePointer := n } }
    (s.modUnit n fun u => { u with queue := rest }, noteMessage s.tables.device n (s.unit n).group record)

/-- A slot of a string emptied by a take, the slot pointer set: the GLIDE before the PRESS; discarded without an open
group (R120, R122). -/
def State.takeSlot (n : StringNo) (s : State) : State × Option InFlight :=
  let s := { s with tx := { s.tx with slotPointer := n } }
  let group := (s.unit n).group
  match (s.unit n).glide, (s.unit n).press with
  | some g, _ =>
    (s.modUnit n fun u => { u with glide := none },
      group.map fun _ => .start .other (message s.tables.device kindGlide (glideBody n g)))
  | none, some p =>
    (s.modUnit n fun u => { u with press := none },
      group.map fun _ => .start .other (message s.tables.device kindPress (pressBody n p)))
  | none, none => (s, none)

/-- The message of a notice (R123, R192). -/
def noticeInFlight (device : DeviceRecord) (notice : Notice) : InFlight :=
  .start .other (message device (noticeMessage notice).1 (noticeMessage notice).2)

/-- One look of the arbiter at its sources in their order (R120): the state after the take, what was taken, and whether a
source had an eligible item. -/
inductive Picked
  | nothing
  | took (s : State) (m : InFlight)
  | discarded (s : State)

/-- What a take of a note record or a slot value gives the arbiter (R121, R122). -/
def Picked.ofTake : State × Option InFlight → Picked
  | (s, some m) => .took s m
  | (s, none) => .discarded s

/-- The first eligible item in the arbiter's order, taken (R120). -/
def State.pickOnce (s : State) : Picked :=
  match s.tx.notices with
  | notice :: rest => .took { s with tx := { s.tx with notices := rest } } (noticeInFlight s.tables.device notice)
  | [] =>
    match (roundRobin s.tx.queuePointer).find? s.queueEligible with
    | some n => .ofTake (s.takeQueue n)
    | none =>
      match s.answers, s.relayDown with
      | answer :: rest, _ => .took { s with answers := rest } (.start .other answer)
      | [], m :: rest => .took { s with relayDown := rest } (.start .other m)
      | [], [] =>
        match (roundRobin s.tx.slotPointer).find? s.slotEligible with
        | some n => .ofTake (s.takeSlot n)
        | none => .nothing

/-- The arbiter's pick: a discarded record uses no synth frame, and the arbiter picks again from the top of its order
(R120 to R122). `fuel` bounds the number of looks. -/
def pickWith : Nat → State → State × Option InFlight
  | 0, s => (s, none)
  | fuel + 1, s =>
    match s.pickOnce with
    | .nothing => (s, none)
    | .took s m => (s, some m)
    | .discarded s => pickWith fuel s

/-- The records and values that a pick could discard in a string. -/
def StringUnit.held (u : StringUnit) : Nat :=
  u.queue.length + (if u.glide.isSome then 1 else 0) + (if u.press.isSome then 1 else 0)

/-- The records and values that a pick could discard. -/
def State.heldRecords (s : State) : Nat := (StringNo.all.map fun n => (s.unit n).held).sum

/-- The arbiter's pick. Each look but the last discards a record or a value, so one look more than there are of them is
enough. -/
def State.pick (s : State) : State × Option InFlight := pickWith (s.heldRecords + 1) s

/-! ### The side byte (R119) and completion (R124) -/

/-- The tag and byte of a message in flight at its position, and the message after it (R119). -/
def InFlight.send (m : InFlight) : InFlight × Tag × Byte :=
  ({ m with position := m.position + 1 }, positionTag m.bytes.length m.position, m.bytes.getD m.position 0)

/-- The transmitter's state replaced. -/
def State.setTx (t : TxState) (s : State) : State := { s with tx := { s.tx with state := t } }

/-- The side byte and tag of a synth forward frame (R119). -/
def State.sideByte (s : State) : State × Tag × Byte :=
  match s.tx.state with
  | .aborting => (s.setTx .ready, .idle, 0)
  | .sending m =>
    let (m, tag, b) := m.send
    (s.setTx (.sending m), tag, b)
  | .ready =>
    match s.pick with
    | (s, some m) =>
      let (m, tag, b) := m.send
      (s.setTx (.sending m), tag, b)
    | (s, none) => (s, .idle, 0)

/-- The open group of a message's string at its completion (R124). -/
def State.completeItem (item : TxItem) (s : State) : State :=
  match item with
  | .strike n channel note => s.modUnit n fun u => { u with group := some { channel := channel, note := note } }
  | .shift n note => s.modUnit n fun u => { u with group := u.group.map fun g => { g with note := note } }
  | .lift n => s.modUnit n fun u => { u with group := none }
  | .other => s

/-- The step TRANSMISSION_COMPLETE (R119, R124), when the LAST byte has been sent. -/
def State.complete (s : State) : State :=
  match s.tx.state with
  | .sending m => if m.bytes.length ≤ m.position then (s.completeItem m.item).setTx .ready else s
  | .ready | .aborting => s

/-! ### The synth forward frame (R166) -/

/-- The store's and the transmitter's answers, in the order taken (R166). -/
def State.frameAnswers (transmitterFirst : Bool) (s : State) : State × FrameRecord × Bool × Tag × Byte :=
  if transmitterFirst then
    let (s, tag, b) := s.sideByte
    let (s, record, prefill) := s.readStore
    (s, record, prefill, tag, b)
  else
    let (s, record, prefill) := s.readStore
    let (s, tag, b) := s.sideByte
    (s, record, prefill, tag, b)

/-- A synth forward frame built and sent while the clock is PRESENT (R166); a completion left due is taken first. -/
def State.synthFrame (order : SynthOrder) (s : State) : State :=
  match s.synth.clock with
  | .absent => { s with synthOut := none }
  | .present =>
    let (s, record, prefill, tag, b) := s.complete.frameAnswers order.transmitterFirst
    let inSync := s.pickup.receiver.state == .sync
    let s := { s with synthOut := some (synthForwardFrame record prefill inSync tag b) }
    if order.hold then s else s.complete

/-- The step SYNTH_FORWARD_FRAME (R166). -/
def execSynthForwardFrame (order : SynthOrder) (s : State) : Host.Outcome State Fault Refusal :=
  .next (s.synthFrame order)

/-- The step TRANSMISSION_COMPLETE (R124). -/
def execTransmissionComplete (s : State) : Host.Outcome State Fault Refusal := .next s.complete

/-! ### Cut and rewind (R126, R128) -/

/-- The message in flight cut by a reset (R126). -/
def State.cut (s : State) : State :=
  match s.tx.state with
  | .sending _ => s.setTx .aborting
  | .ready | .aborting => s

/-- The message in flight set back to its first byte when the clock is lost (R128). -/
def State.rewind (s : State) : State :=
  match s.tx.state with
  | .sending m => s.setTx (.sending { m with position := 0 })
  | .ready | .aborting => s

end Sys2Proof.Machine
end

