-- ==== Sys2Proof/Machine/Management.lean ====
section
/-! DEFINITION. The management unit: requests, tables, STATUS, COUNTERS and the resets (chapter 10). -/

namespace Sys2Proof.Machine

/-! ### Answers (R176 to R178) -/

/-- What a request is answered with: a result code and the result data. -/
structure Reply where
  result : Result
  data : List Byte
  deriving DecidableEq, Repr

/-- A reply without data. -/
def Reply.code (result : Result) : Reply := { result := result, data := [] }

/-- The ANSWER built at execution (R178, R192): the address as it stands, the echoed kind and tag, the result, the quick
status of the given states and links, the data. -/
def buildAnswer (device : DeviceRecord) (kind tag : Byte) (quick : List Byte) (reply : Reply) : List Byte :=
  message device kindAnswer ([kind, tag, byte reply.result.code] ++ quick ++ reply.data)

/-- The quick status as the part stands (R178). -/
def State.quick (s : State) : List Byte := quickStatus s.states s.pickup.receiver.state s.store.state

/-- An answer appended to the answer queue (R176, R178). -/
def State.answer (kind tag : Byte) (reply : Reply) (s : State) : State :=
  { s with answers := s.answers ++ [buildAnswer s.tables.device kind tag s.quick reply] }

/-- The tag of a request: its first body byte, or $00 of an empty body (R177). -/
def tagOf (body : List Byte) : Byte := body.headD 0

/-- A request dropped by a full answer queue (R176). -/
def State.dropRequest (s : State) : State :=
  { s with link := { s.link with requestsDropped := bump s.link.requestsDropped } }

/-- A request taken by the management unit (R176): dropped and counted when the answer queue holds 4, else executed. -/
def State.takeRequest (execute : State → State) (s : State) : State :=
  if s.answers.length ≤ 3 then execute s else s.dropRequest

/-- A request at the management unit (R164, R176): none can arrive while the line clock is ABSENT (log 8). The request has been
delivered, so it is taken with the synth receiver in SYNC and in HUNT alike (log 8, DESIGN CHOICE). -/
def State.admitRequest (execute : State → State) (s : State) : State :=
  match s.synth.clock with
  | .absent => s
  | .present => s.takeRequest execute

/-- A request executed and answered: the answer is built after the request's own effect (R176, R178). -/
def State.serve (kind : Byte) (body : List Byte) (effect : List Byte → State → State × Reply) (s : State) : State :=
  s.admitRequest fun s =>
    let (s, reply) := effect body s
    s.answer kind (tagOf body) reply

/-! ### PUT and GET (R179 to R182) -/

/-- The answer of a PUT: CLAMPED when a clamp or a fix changed a field, that is, when the record as stored differs from the
record offered; the data are the record as stored (R181; log 14). -/
def putReply (offered stored : List Byte) : Reply :=
  { result := if stored = offered then .ok else .clamped, data := stored }

/-- The device record written (R182). -/
def putDevice (record : List Byte) (s : State) : State × Reply :=
  let d := readDevice record
  ({ s with tables := { s.tables with device := d } }, putReply record d.bytes)

/-- A string record written; its output mode and its enable take effect at once (R32, R113, R182; log 15). -/
def State.writeString (n : StringNo) (r : StringRecord) (s : State) : State :=
  let old := s.record n
  let inFlight := strikesOrShifts n s.tx.state
  let s' := { s with tables := { s.tables with strings := s.tables.strings.set n r } }
  s'.modUnit n fun u =>
    changeEnable old.enable r.enable r.outputMode s.index (changeMode old.outputMode r.outputMode inFlight s.index u)

/-- A string record offered by a PUT: its enumerated fields are judged first (R179, R195). -/
def putString (n : StringNo) (record : List Byte) (s : State) : State × Reply :=
  match OutputMode.ofCode (byteAt record 1), SampleMode.ofCode (byteAt record 2) with
  | some output, some sample =>
    let r := readString output sample record
    (s.writeString n r, putReply record r.bytes)
  | _, _ => (s, .code .badValue)

/-- A crosstalk row written whole (R8, R182). -/
def putRow (n : StringNo) (record : List Byte) (s : State) : State × Reply :=
  let row := readRow n record
  ({ s with tables := { s.tables with matrix := s.tables.matrix.set n row } }, putReply record (rowBytes row))

/-- A zone record offered by a PUT: its mode is judged first (R179, R195). -/
def putZone (i : Fin 32) (record : List Byte) (s : State) : State × Reply :=
  match ZoneMode.ofCode (byteAt record 4) with
  | some mode =>
    let z := readZone mode record
    ({ s with tables := { s.tables with zones := s.tables.zones.set i.val z } }, putReply record z.bytes)
  | none => (s, .code .badValue)

/-- A velocity curve written (R182). -/
def putCurve (i : Fin 4) (record : List Byte) (s : State) : State × Reply :=
  let c := readCurve record
  ({ s with tables := { s.tables with curves := s.tables.curves.set i.val c } }, putReply record (curveBytes c))

/-- A record of a table, named by a PUT or a GET (R179, R195). -/
inductive RecordName
  | device
  | string (n : StringNo)
  | row (n : StringNo)
  | zone (i : Fin 32)
  | curve (i : Fin 4)
  deriving DecidableEq, Repr

/-- The record a table number and an index name, or the failure (R179, R195). -/
def recordName (table index : Nat) : Except Result RecordName :=
  if table = 1 then (if index = 0 then .ok .device else .error .badIndex)
  else if table = 2 then (match stringOf index with | some n => .ok (.string n) | none => .error .badIndex)
  else if table = 3 then (match stringOf index with | some n => .ok (.row n) | none => .error .badIndex)
  else if table = 4 then (if h : index < 32 then .ok (.zone ⟨index, h⟩) else .error .badIndex)
  else if table = 5 then (if h : index < 4 then .ok (.curve ⟨index, h⟩) else .error .badIndex)
  else .error .badTable

/-- The number of bytes of a table's record (R195). -/
def RecordName.length : RecordName → Nat
  | .device => 7 | .string _ => 43 | .row _ => 12 | .zone _ => 8 | .curve _ => 16

/-- A record of the right length written (R179 to R182). -/
def putRecord (name : RecordName) (record : List Byte) (s : State) : State × Reply :=
  match name with
  | .device => putDevice record s
  | .string n => putString n record s
  | .row n => putRow n record s
  | .zone i => putZone i record s
  | .curve i => putCurve i record s

/-- A record as stored (R179). -/
def State.recordBytes (name : RecordName) (s : State) : List Byte :=
  match name with
  | .device => s.tables.device.bytes
  | .string n => (s.record n).bytes
  | .row n => rowBytes (s.tables.matrix.get n)
  | .zone i => (s.tables.zones.get i).bytes
  | .curve i => curveBytes (s.tables.curves.get i)

/-- PUT: the body long enough for tag, table and index; then table, index, record length, enumerated fields (R177, R179,
R193). -/
def putRequest (body : List Byte) (s : State) : State × Reply :=
  match body with
  | _ :: table :: index :: record =>
    match recordName table.toNat index.toNat with
    | .error e => (s, .code e)
    | .ok name => if record.length = name.length then putRecord name record s else (s, .code .badLength)
  | _ => (s, .code .badLength)

/-- GET (R177, R179, R193). -/
def getRequest (body : List Byte) (s : State) : State × Reply :=
  match body with
  | [_, table, index] =>
    match recordName table.toNat index.toNat with
    | .error e => (s, .code e)
    | .ok name => (s, { result := .ok, data := s.recordBytes name })
  | _ => (s, .code .badLength)

/-! ### Requests on strings (R183, R140, R142) -/

/-- MODE: the output mode field written, under the mode change rules (R183). -/
def modeRequest (body : List Byte) (s : State) : State × Reply :=
  match body with
  | [_, string, code] =>
    match stringOf string.toNat with
    | none => (s, .code .badIndex)
    | some n =>
      match OutputMode.ofCode code.toNat with
      | none => (s, .code .badValue)
      | some mode => (s.writeString n { s.record n with outputMode := mode }, .code .ok)
  | _ => (s, .code .badLength)

/-- CLEAR of a string (R140). -/
def clearString (n : StringNo) (s : State) : State × Reply :=
  if (s.unit n).state.faulted then
    match conditionPresent (s.record n) (s.unit n).monitor with
    | some _ => (s, .code .stillFaulted)
    | none => ((s.modUnit n recoverString).offerNotice (.recover n), .code .ok)
  else (s, .code .noEffect)

/-- CLEAR (R140, R183). -/
def clearRequest (body : List Byte) (s : State) : State × Reply :=
  match body with
  | [_, string] =>
    match stringOf string.toNat with
    | none => (s, .code .badIndex)
    | some n => clearString n s
  | _ => (s, .code .badLength)

/-- DAMP (R142, R183). -/
def dampRequest (body : List Byte) (s : State) : State × Reply :=
  match body with
  | [_, string] =>
    match stringOf string.toNat with
    | none => (s, .code .badIndex)
    | some n =>
      let (u, took) := dampString (s.record n) s.index (s.unit n)
      (s.setUnit n u, .code (if took then .ok else .noEffect))
  | _ => (s, .code .badLength)

/-! ### STATUS and COUNTERS (R184, R185, R194) -/

/-- The device data of STATUS (R184, R194). -/
def State.deviceStatus (s : State) : List Byte :=
  [byte (flag (s.pickup.receiver.state == .sync)), byte (flag (s.synth.clock == .present)), byte s.store.fill,
    byte (flag s.store.state.prefilling)] ++ stampBytes s.index ++ [byte s.tables.device.address]

/-- k as STATUS reports it: 0 unless LOCKED (R57, R184). -/
def Tracker.reportedK (t : Tracker) : Nat :=
  match t.lock, t.k with
  | .locked, some k => k.num
  | _, _ => 0

/-- H as STATUS reports it: 0 unless STRUCK (R106, R184). -/
def Context.reportedNote : Context → Nat
  | .struck note => note.held
  | .pending _ | .empty => 0

/-- Q as STATUS reports it: 0 while absent (R80, R184). -/
def Pitch.reportedQ : Pitch → Nat
  | .held q _ | .tracking q _ => q
  | .none => 0

/-- The string data of STATUS (R184, R194). -/
def StringUnit.statusBytes (u : StringUnit) : List Byte :=
  [byte u.state.code, byte (flag (u.tracker.lock == .locked)), byte u.tracker.reportedK,
    byte u.context.reportedNote] ++ bytes2 u.pitch.reportedQ ++ bytes3 u.env.level ++
    [byte (causeCode u.monitor.cause), byte u.monitor.retries, byte u.queue.length,
      byte (flag u.glide.isSome + 2 * flag u.press.isSome)]

/-- STATUS (R184, R193). -/
def statusRequest (body : List Byte) (s : State) : State × Reply :=
  match body with
  | [_, selector] =>
    if selector = 0#8 then (s, { result := .ok, data := s.deviceStatus })
    else
      match stringOf selector.toNat with
      | none => (s, .code .badIndex)
      | some n => (s, { result := .ok, data := (s.unit n).statusBytes })
  | _ => (s, .code .badLength)

/-- The link group's counters in answer order (R185). -/
def LinkCounters.bytes (c : LinkCounters) : List Byte :=
  bytes2 c.pickupSyncLosses ++ bytes2 c.synthSyncLosses ++ bytes2 c.badCrc ++ bytes2 c.short ++ bytes2 c.long ++
    bytes2 c.aborts ++ bytes2 c.badAddress ++ bytes2 c.relayDrops ++ bytes2 c.requestsDropped ++
    bytes2 c.noticesLost ++ bytes2 c.repeatSlips ++ bytes2 c.dropSlips

/-- A string group's counters in answer order (R185). -/
def StringCounters.bytes (c : StringCounters) : List Byte :=
  bytes2 c.ghosts ++ bytes2 c.unzoned ++ bytes2 c.lost ++ bytes2 c.merged ++ bytes2 c.lockLosses ++
    bytes2 c.faults ++ bytes2 c.retries

/-- A counter group's snapshot, and its clear when asked (R185). -/
def countersRequest (body : List Byte) (s : State) : State × Reply :=
  match body with
  | [_, group, clear] =>
    if group = 0#8 then
      if clear.toNat ≤ 1 then
        (if clear = 1#8 then { s with link := .zero } else s, { result := .ok, data := s.link.bytes })
      else (s, .code .badValue)
    else
      match stringOf group.toNat with
      | none => (s, .code .badIndex)
      | some n =>
        if clear.toNat ≤ 1 then
          (if clear = 1#8 then s.modUnit n fun u => { u with counters := .zero } else s,
            { result := .ok, data := (s.unit n).counters.bytes })
        else (s, .code .badValue)
  | _ => (s, .code .badLength)

/-! ### Resets (R126, R127, R186, R187) -/

/-- The events of a string but the hand-over of its tracker's reports, in the canonical order. -/
def Event.unreported : List Event := Event.canonical.filter fun e => e != .report && e != .lock

/-- Every due event of string `n` but its tracker's reports taken. -/
def State.settleUnreported (n : StringNo) (s : State) : State := Event.unreported.foldl (fun s e => s.takeEvent n e) s

/-- The reports on their way to a note engine that the same reset clears: discarded (R56). -/
def StringUnit.dropReports (u : StringUnit) : StringUnit := { u with due := { u.due with report := none, lock := none } }

/-- What earlier arrivals left due, before a reset: taken, but for the reports to the note engines that take the reset with
the other blocks, which are discarded (R56; log 16). -/
def State.settleForReset (late : Six Bool) (s : State) : State :=
  StringNo.all.foldl (fun s n => (if late.get n then s else s.modUnit n StringUnit.dropReports).settleUnreported n) s

/-- The string queue and the slots under a reset (R127 steps 3 and 4): flushed, with a RESET LIFT for an open group, and
refusing offers until the note engine has taken the reset. -/
def resetQueue (stamp : Index) (u : StringUnit) : StringUnit :=
  let v := { u.flush with refusing := true }
  if v.group.isSome then v.placeLift stamp .reset else v

/-- The event transmitter and the string queues take a reset (R126, R127). -/
def State.resetTransmitter (s : State) : State :=
  let s := s.complete.cut
  { s with units := Six.ofFn fun n => resetQueue s.index (s.unit n),
           tx := { s.tx with notices := [], queuePointer := .s6, slotPointer := .s6 } }

/-- The string blocks that take the reset with the others (R35, R56, R105, R146). -/
def State.resetStrings (full : Bool) (late : Six Bool) (s : State) : State :=
  { s with units := Six.ofFn fun n => if late.get n then s.unit n else resetString full (s.unit n) }

/-- The management unit empties the answer queue and, under FULL, writes every table with its defaults and sets every counter
to 0; the relay buffers are emptied with it (R173, R186, R187). -/
def State.resetTables (full : Bool) (s : State) : State :=
  let s := { s with answers := [] }
  if full then
    { s with units := Six.ofFn fun n => { s.unit n with counters := .zero }, tables := .default, link := .zero,
             relayUp := [], relayDown := [] }
  else s

/-- What a reset does before its answer is built: every block of R186 but the strings that are late. -/
def State.resetBlocks (full : Bool) (late : Six Bool) (s : State) : State :=
  (((s.settleForReset late).resetTransmitter).resetStrings full late).resetTables full

/-- One arrival while a reset is under way (R127, R187). -/
def State.arrive (a : Arrival) (s : State) : State :=
  match a with
  | .frame frame order => s.pickupFrame frame order
  | .event n e => s.takeEvent n e

/-- The late strings' blocks take the reset; reports on their way to their note engines are discarded (R56, R127). -/
def State.resetLate (full : Bool) (late : Six Bool) (s : State) : State :=
  StringNo.all.foldl
    (fun s n =>
      if late.get n then
        ((s.modUnit n StringUnit.dropReports).settleUnreported n).modUnit n (resetString full)
      else s) s

/-- A reset executed (R127, R186, R187): the blocks take it, what comes meanwhile arrives, the answer is appended with the quick
status as it then stands, and the late strings' blocks take the reset. -/
def State.resetPart (full : Bool) (tag : Byte) (order : ResetOrder) (s : State) : State :=
  let after := order.meanwhile.foldl (fun s a => s.arrive a) (s.resetBlocks full order.late)
  (after.answer kindReset tag (.code .ok)).resetLate full order.late

/-- A RESET request by its body: length, then scope (R177, R186, R193). A reset with a valid scope is taken with the line clock
ABSENT too: one delivered before the clock was lost (R128; log 8). -/
def State.resetRequest (body : List Byte) (order : ResetOrder) (s : State) : State :=
  match body with
  | [tag, scope] =>
    if scope = 1#8 then s.takeRequest (State.resetPart false tag order)
    else if scope = 2#8 then s.takeRequest (State.resetPart true tag order)
    else s.admitRequest (State.answer kindReset tag (.code .badValue))
  | _ => s.admitRequest (State.answer kindReset (tagOf body) (.code .badLength))

/-- A kind byte that names no request (R177). -/
def badKindRequest (_body : List Byte) (s : State) : State × Reply := (s, .code .badKind)

/-- A request of any kind (R177, R191). -/
def State.request (kind : Byte) (body : List Byte) (order : ResetOrder) (s : State) : State :=
  if kind = kindPut then s.serve kind body putRequest
  else if kind = kindGet then s.serve kind body getRequest
  else if kind = kindMode then s.serve kind body modeRequest
  else if kind = kindClear then s.serve kind body clearRequest
  else if kind = kindDamp then s.serve kind body dampRequest
  else if kind = kindStatus then s.serve kind body statusRequest
  else if kind = kindCounters then s.serve kind body countersRequest
  else if kind = kindReset then s.resetRequest body order
  else s.serve kind body badKindRequest

/-! ### The commands -/

/-- REQUEST_BAD_KIND (R177). -/
def execRequestBadKind (kind : Byte) (body : List Byte) (s : State) : Host.Outcome State Fault Refusal :=
  .next (s.serve kind body badKindRequest)

/-- PUT (R179 to R182). -/
def execPut (body : List Byte) (s : State) : Host.Outcome State Fault Refusal := .next (s.serve kindPut body putRequest)

/-- GET (R179). -/
def execGet (body : List Byte) (s : State) : Host.Outcome State Fault Refusal := .next (s.serve kindGet body getRequest)

/-- MODE (R183). -/
def execMode (body : List Byte) (s : State) : Host.Outcome State Fault Refusal :=
  .next (s.serve kindMode body modeRequest)

/-- CLEAR (R140, R183). -/
def execClear (body : List Byte) (s : State) : Host.Outcome State Fault Refusal :=
  .next (s.serve kindClear body clearRequest)

/-- DAMP (R142, R183). -/
def execDamp (body : List Byte) (s : State) : Host.Outcome State Fault Refusal :=
  .next (s.serve kindDamp body dampRequest)

/-- STATUS (R184). -/
def execStatus (body : List Byte) (s : State) : Host.Outcome State Fault Refusal :=
  .next (s.serve kindStatus body statusRequest)

/-- COUNTERS (R185). -/
def execCounters (body : List Byte) (s : State) : Host.Outcome State Fault Refusal :=
  .next (s.serve kindCounters body countersRequest)

/-- RESET with scope TRACKING (R186, R187). -/
def execResetTracking (tag : Byte) (order : ResetOrder) (s : State) : Host.Outcome State Fault Refusal :=
  .next (s.resetRequest [tag, 1#8] order)

/-- RESET with scope FULL (R186, R187). -/
def execResetFull (tag : Byte) (order : ResetOrder) (s : State) : Host.Outcome State Fault Refusal :=
  .next (s.resetRequest [tag, 2#8] order)

end Sys2Proof.Machine
end

