-- ==== Sys2Proof/Machine/SynthLink.lean ====
section
/-! DEFINITION. The synth link interface: SYNTH_RETURN_FRAME, SYNTH_RECEIVER_HUNT_ENTRY, SYNTH_RECEIVER_SYNC_ENTRY,
CLOCK_LOST and CLOCK_RETURN, and POWER_ON (R164, R165, R172; the power-on rules of every chapter). -/

namespace Sys2Proof.Machine

/-! ### Delivery (R172) -/

/-- The kind byte of a delivered message: the byte after its address (R191). -/
def messageKind (message : List Byte) : Byte := message.getD 1 0

/-- The body of a delivered message: what stands between the kind byte and the two CRC bytes (R191). -/
def messageBody (message : List Byte) : List Byte := (message.take (message.length - 2)).drop 2

/-- A delivered message at the management unit (R176, R177). -/
def State.manage (message : List Byte) (order : ResetOrder) (s : State) : State :=
  s.request (messageKind message) (messageBody message) order

/-- An all-call: the management unit and relay-up each take it, in the given order (R172). -/
def State.allCall (message : List Byte) (order : ReturnOrder) (s : State) : State :=
  if order.relayFirst then (s.offerUp message).manage message order.reset
  else (s.manage message order.reset).offerUp message

/-- A message delivered by the synth return receiver, routed by its address byte against the stored address (R172). -/
def State.deliver (message : List Byte) (order : ReturnOrder) (s : State) : State :=
  match routeOf s.tables.device.address (message.headD 0) with
  | .allCall => s.allCall message order
  | .own => s.manage message order.reset
  | .relay => s.offerUp message
  | .discard => { s with link := { s.link with badAddress := bump s.link.badAddress } }

/-- A message completed on the synth return receiver (R170). -/
def State.returnMessage (message : List Byte) (order : ReturnOrder) (s : State) : State :=
  match s.checkMessage message with
  | (s, some m) => s.deliver m order
  | (s, none) => s

/-- The side byte of a taken synth return frame handed to its side-channel receiver (R165, R168, R169). -/
def State.returnSideByte (tag : Tag) (b : Byte) (order : ReturnOrder) (s : State) : State :=
  let (side, event) := takeSideByte tag b s.synth.side
  let s := { s with synth := { s.synth with side := side } }
  match event with
  | .none => s
  | .abort => s.countAbort
  | .long => s.countLong
  | .complete message => s.returnMessage message order

/-! ### The synth receiver (R165) -/

/-- The synth receiver's entry to HUNT (R165): counted, the open message aborted without a count. -/
def State.synthHuntEntry (s : State) : State :=
  { s with synth := { s.synth with receiver := s.synth.receiver.toHunt, side := none },
           link := { s.link with synthSyncLosses := bump s.link.synthSyncLosses } }

/-- The synth receiver's entry to SYNC (R165): it tells no block and offers no notice. -/
def State.synthSyncEntry (s : State) : State :=
  { s with synth := { s.synth with receiver := s.synth.receiver.toSync } }

/-- The step SYNTH_RECEIVER_HUNT_ENTRY, when the bad-sync run has reached 3. -/
def State.takeSynthHunt (s : State) : State := if s.synth.receiver.huntDue then s.synthHuntEntry else s

/-- The step SYNTH_RECEIVER_SYNC_ENTRY, when the good-sync run has reached 2. -/
def State.takeSynthSync (s : State) : State := if s.synth.receiver.syncDue then s.synthSyncEntry else s

/-- The entry of the synth receiver that is due, if one is. -/
def State.settleSynth (s : State) : State :=
  match s.synth.receiver.state with
  | .sync => s.takeSynthHunt
  | .hunt => s.takeSynthSync

/-- A synth return frame judged by the synth receiver, with whether it is taken (R165). -/
def State.judgeSynth (good hold : Bool) (s : State) : State × Bool :=
  let (receiver, taken) := s.synth.receiver.judge good
  let s := { s with synth := { s.synth with receiver := receiver } }
  (if hold then s else s.settleSynth, taken)

/-- A synth return frame (R165): none is taken while the clock is ABSENT (R164); an entry left due is taken first. -/
def State.returnFrame (frame : FrameBits) (order : ReturnOrder) (s : State) : State :=
  match s.synth.clock with
  | .absent => s
  | .present =>
    let (s, taken) := s.settleSynth.judgeSynth (goodSync frame) order.hold
    if taken then s.returnSideByte (returnTag frame) (returnSide frame) order else s

/-- The step SYNTH_RETURN_FRAME (R165). -/
def execSynthReturnFrame (frame : FrameBits) (order : ReturnOrder) (s : State) : Host.Outcome State Fault Refusal :=
  .next (s.returnFrame frame order)

/-- The step SYNTH_RECEIVER_HUNT_ENTRY (R165). -/
def execSynthReceiverHuntEntry (s : State) : Host.Outcome State Fault Refusal := .next s.takeSynthHunt

/-- The step SYNTH_RECEIVER_SYNC_ENTRY (R165). -/
def execSynthReceiverSyncEntry (s : State) : Host.Outcome State Fault Refusal := .next s.takeSynthSync

/-! ### The line clock (R164, R128, R157) -/

/-- "Clock lost" (R164): the transmitter sets its message back to the first byte (R128), the store is flushed to HALTED
(R157), and the open message of the synth return receiver is aborted without a count. A completion left due is taken
first. -/
def State.clockLost (s : State) : State :=
  match s.synth.clock with
  | .absent => s
  | .present =>
    let s := s.complete.rewind
    { s with store := s.store.flush .halted, synth := { s.synth with clock := .absent, side := none } }

/-- The return of the clock (R164): the store enters PREFILL (R157) and LINK (SYNTH, RESTORED) is offered. -/
def State.clockReturn (s : State) : State :=
  match s.synth.clock with
  | .present => s
  | .absent =>
    State.offerNotice { s with store := s.store.flush .prefill, synth := { s.synth with clock := .present } }
      (.link .synthRestored)

/-- The step CLOCK_LOST (R164). -/
def execClockLost (s : State) : Host.Outcome State Fault Refusal := .next s.clockLost

/-- The step CLOCK_RETURN (R164). -/
def execClockReturn (s : State) : Host.Outcome State Fault Refusal := .next s.clockReturn

/-! ### Power-on -/

/-- The power-on state (R35, R118, R149, R174, R188). The commands that wait outside the part, and the count of free values
drawn, are the model's own and stay (log 13). -/
def State.powerOn (s : State) : State := { State.reset with drawn := s.drawn, pending := s.pending }

/-- The step POWER_ON: the reset line asserted and released. -/
def execPowerOn (s : State) : Host.Outcome State Fault Refusal := .next s.powerOn

end Sys2Proof.Machine
end

