-- ==== Sys2Proof/Machine/Dispatch.lean ====
section
/-! DEFINITION. The effect of each command: one arm per row of the opcode table. -/

namespace Sys2Proof.Machine

def exec (i : Instr) (s : State) : Host.Outcome State Fault Refusal :=
  match i with
  | .powerOn => Sys2Proof.Machine.execPowerOn s
  | .pickupForwardFrame frame order => Sys2Proof.Machine.execPickupForwardFrame frame order s
  | .lock n => Sys2Proof.Machine.execLock n s
  | .lockLoss n => Sys2Proof.Machine.execLockLoss n s
  | .staleCrossing n => Sys2Proof.Machine.execStaleCrossing n s
  | .strikeDeadlineExpiry n => Sys2Proof.Machine.execStrikeDeadlineExpiry n s
  | .release n => Sys2Proof.Machine.execRelease n s
  | .faultEntry n => Sys2Proof.Machine.execFaultEntry n s
  | .faultWaitEnd n => Sys2Proof.Machine.execFaultWaitEnd n s
  | .recovery n => Sys2Proof.Machine.execRecovery n s
  | .dampExit n => Sys2Proof.Machine.execDampExit n s
  | .pickupHuntEntry => Sys2Proof.Machine.execPickupHuntEntry s
  | .pickupSyncEntry => Sys2Proof.Machine.execPickupSyncEntry s
  | .converterMessage message => Sys2Proof.Machine.execConverterMessage message s
  | .synthForwardFrame order => Sys2Proof.Machine.execSynthForwardFrame order s
  | .transmissionComplete => Sys2Proof.Machine.execTransmissionComplete s
  | .synthReturnFrame frame order => Sys2Proof.Machine.execSynthReturnFrame frame order s
  | .synthReceiverHuntEntry => Sys2Proof.Machine.execSynthReceiverHuntEntry s
  | .synthReceiverSyncEntry => Sys2Proof.Machine.execSynthReceiverSyncEntry s
  | .relayUpMessage message => Sys2Proof.Machine.execRelayUpMessage message s
  | .clockLost => Sys2Proof.Machine.execClockLost s
  | .clockReturn => Sys2Proof.Machine.execClockReturn s
  | .requestBadKind kind body => Sys2Proof.Machine.execRequestBadKind kind body s
  | .put body => Sys2Proof.Machine.execPut body s
  | .get body => Sys2Proof.Machine.execGet body s
  | .mode body => Sys2Proof.Machine.execMode body s
  | .clear body => Sys2Proof.Machine.execClear body s
  | .damp body => Sys2Proof.Machine.execDamp body s
  | .status body => Sys2Proof.Machine.execStatus body s
  | .counters body => Sys2Proof.Machine.execCounters body s
  | .resetTracking tag order => Sys2Proof.Machine.execResetTracking tag order s
  | .resetFull tag order => Sys2Proof.Machine.execResetFull tag order s

end Sys2Proof.Machine
end

