-- ==== Sys2Proof/Safety.lean ====
section
/-! DEFINITION. What counts as a sound state of the part, in the terms the claims use: the promises the spec makes of
every state, as invariants. -/

namespace Sys2Proof.Machine

/-! ### Capacities and saturation -/

/-- Every counter of a string group is at most 65,535 (R185). -/
abbrev StringCounters.Saturated (c : StringCounters) : Prop :=
  c.ghosts ≤ 65535 ∧ c.unzoned ≤ 65535 ∧ c.lost ≤ 65535 ∧ c.merged ≤ 65535 ∧ c.lockLosses ≤ 65535 ∧
    c.faults ≤ 65535 ∧ c.retries ≤ 65535

/-- Every counter of the link group is at most 65,535 (R185). -/
abbrev LinkCounters.Saturated (c : LinkCounters) : Prop :=
  c.pickupSyncLosses ≤ 65535 ∧ c.synthSyncLosses ≤ 65535 ∧ c.badCrc ≤ 65535 ∧ c.short ≤ 65535 ∧ c.long ≤ 65535 ∧
    c.aborts ≤ 65535 ∧ c.badAddress ≤ 65535 ∧ c.relayDrops ≤ 65535 ∧ c.requestsDropped ≤ 65535 ∧
    c.noticesLost ≤ 65535 ∧ c.repeatSlips ≤ 65535 ∧ c.dropSlips ≤ 65535

/-- The capacities, the saturating counts and the moduli of one string (R15, R37, R107, R131, R185). -/
abbrev StringUnit.Bounded (u : StringUnit) : Prop :=
  u.counters.Saturated ∧ u.queue.length ≤ 8 ∧ u.env.level ≤ levelMax ∧ u.env.peak ≤ levelMax ∧
    u.env.valley ≤ levelMax ∧ u.tracker.history.length ≤ 8 ∧ u.tracker.stale ≤ 4096 ∧ u.tracker.misses ≤ 3 ∧
    u.tracker.candidates.c1.passes ≤ 255 ∧ u.tracker.candidates.c2.passes ≤ 255 ∧
    u.tracker.candidates.c3.passes ≤ 255 ∧ u.tracker.candidates.c4.passes ≤ 255 ∧ u.monitor.clipRun ≤ 255 ∧
    u.monitor.stuckRun ≤ 65535 ∧ u.monitor.retries ≤ 255 ∧ u.tracker.samples ≤ 1048575 ∧
    (∀ i ∈ u.tracker.zero, i.ticks ≤ 16777215) ∧ ∀ i ∈ u.tracker.ref, i.ticks ≤ 16777215

/-- The bytes a side-channel receiver holds (R168). -/
def SideReceiver.bytes (r : SideReceiver) : List Byte := r.getD []

/-- Every queue, buffer and counter of the part is within its capacity (R48, R107, R117, R168, R173, R176, R185). -/
def Bounded (s : State) : Prop :=
  (∀ n, (s.unit n).Bounded) ∧ s.link.Saturated ∧ s.tx.notices.length ≤ 8 ∧ s.answers.length ≤ 4 ∧
    s.relayUp.length ≤ 2 ∧ s.relayDown.length ≤ 2 ∧ (SideReceiver.bytes s.pickup.side).length ≤ 64 ∧
    (SideReceiver.bytes s.synth.side).length ≤ 64

/-! ### The elastic store -/

/-- The fill lies in the range of the store's state, and the write position leads the read position by it (R149, R154). -/
abbrev Store.Sound (st : Store) : Prop :=
  st.write = advance st.read st.fill ∧ (st.state = .halted → st.fill = 0) ∧ (st.state = .prefill → st.fill ≤ 15) ∧
    (st.state = .flowing → 2 ≤ st.fill ∧ st.fill ≤ 30)

/-- The store is sound, and HALTED exactly while the line clock is ABSENT (R149, R157). -/
def StoreClocked (s : State) : Prop := s.store.Sound ∧ (s.store.state = .halted ↔ s.synth.clock = .absent)

/-- How many of the newest records the store may still read or repeat: all it holds, and in FLOWING at least 16 (R154). -/
def Store.runLength (st : Store) : Nat :=
  match st.state with
  | .halted => 0
  | .prefill => st.fill
  | .flowing => max 16 st.fill

/-- The record written `j` writes before the newest. -/
def Store.newest (st : Store) (j : Nat) : FrameRecord := st.slots.get (retreat st.write (j + 1))

/-- The index of the latest frame whose record has been offered to the store. -/
def State.lastOffered (s : State) : Index :=
  match s.inProcess with
  | some w => if w.offered then s.index else s.index - 1
  | none => s.index

/-- The records the store may still read carry consecutive input frame indices up to the latest offered (R158). -/
def StoreConsecutive (s : State) : Prop :=
  (∀ w, s.inProcess = some w → w.index = s.index) ∧
    ∀ j, j < s.store.runLength → (s.store.newest j).index = s.lastOffered - BitVec.ofNat 16 j

/-! ### Tables -/

/-- The ranges of the device record (R180). -/
abbrev DeviceRecord.Sound (d : DeviceRecord) : Prop :=
  1 ≤ d.address ∧ d.address ≤ 126 ∧ 41500 ≤ d.fA ∧ d.fA ≤ 46600 ∧ 32000 ≤ d.fs ∧ d.fs ≤ 96000

/-- The ranges of a string record (R180), with the release threshold below A and S above A (R181). -/
abbrev StringRecord.Sound (r : StringRecord) : Prop :=
  16 ≤ r.attach ∧ r.attach < r.velocitySpan ∧ r.velocitySpan ≤ levelMax ∧ 1 ≤ r.releaseThreshold ∧
    r.releaseThreshold < r.attach ∧ 1 ≤ r.releaseHold ∧ r.releaseHold ≤ 4095 ∧ 4 ≤ r.decayShift ∧ r.decayShift ≤ 15 ∧
    r.lowPassShift ≤ 6 ∧ 1 ≤ r.hysteresisShift ∧ r.hysteresisShift ≤ 6 ∧ 4 ≤ r.tolerance ∧ r.tolerance ≤ 64 ∧
    r.loopShift ≤ 7 ∧ 1 ≤ r.confirm ∧ r.confirm ≤ 8 ∧ r.strikeDeadline ≤ 4095 ∧ r.noteHysteresis ≤ 24 ∧
    9 ≤ r.reattackRatio ∧ r.reattackRatio ≤ 64 ∧ r.reattackGuard ≤ 4095 ∧ 1 ≤ r.glideStep ∧ r.glideStep ≤ 16 ∧
    8 ≤ r.glideInterval ∧ r.glideInterval ≤ 1024 ∧ r.pressInterval ≤ 4095 ∧ 1 ≤ r.clipLevel ∧ r.clipLevel ≤ levelMax ∧
    1 ≤ r.clipCount ∧ r.clipCount ≤ 255 ∧ 1 ≤ r.stuckCount ∧ r.stuckCount ≤ 255 ∧ 1 ≤ r.faultWait ∧ r.faultWait ≤ 15 ∧
    1 ≤ r.faultTest ∧ r.faultTest ≤ 15 ∧ r.dampTime ≤ 65535

/-- The ranges of a zone record (R84). -/
abbrev ZoneRecord.Sound (z : ZoneRecord) : Prop :=
  z.low ≤ 127 ∧ z.high ≤ 127 ∧ 1 ≤ z.channel ∧ z.channel ≤ 16 ∧ -48 ≤ z.transpose ∧ z.transpose ≤ 48 ∧
    1 ≤ z.bendRange ∧ z.bendRange ≤ 24

/-- The ranges of a crosstalk row for target `n`; the own-string entry is 0 (R3, R181). -/
def RowSound (n : StringNo) (row : CrosstalkRow) : Prop :=
  row.get n = 0 ∧ ∀ t, -16384 ≤ row.get t ∧ row.get t ≤ 16383

/-- The range of a velocity curve (R89). -/
def CurveSound (c : Curve) : Prop := ∀ i : Fin 16, 1 ≤ c.get i ∧ c.get i ≤ 127

/-- Every table record is within its ranges (R3, R84, R89, R180, R181). -/
def TablesSound (tb : Tables) : Prop :=
  tb.device.Sound ∧ (∀ n, (tb.strings.get n).Sound) ∧ (∀ n, RowSound n (tb.matrix.get n)) ∧
    (∀ i, (tb.zones.get i).Sound) ∧ ∀ i, CurveSound (tb.curves.get i)

/-! ### One string's blocks agree -/

/-- The context is PENDING. -/
def Context.isPending : Context → Bool
  | .pending _ => true
  | .struck _ | .empty => false

/-- The context is STRUCK. -/
def Context.isStruck : Context → Bool
  | .struck _ => true
  | .pending _ | .empty => false

/-- The blocks of one string agree on its state: OFF with the enable (R20), the tracker and the envelope items (R15, R30,
R39), the note context and the pitch record (R70, R81), the fault cause and timers (R131), the damp timer (R142). No reset is under way, so its queue refuses nothing for one (R127). -/
abbrev StringUnit.Agrees (r : StringRecord) (u : StringUnit) : Prop :=
  (u.state = .off ↔ r.enable = false) ∧
    (u.state.tracked = true → u.tracker.run = .running) ∧
    (u.state.tracked = false →
      u.tracker = .fresh .stopped ∧ u.env.peak = 0 ∧ u.env.valley = 0 ∧ u.env.guard = 0 ∧ u.env.hold = 0) ∧
    (u.state = .off ∨ u.state.faulted = true → u.env.level = 0) ∧
    (u.context.isPending = true ↔ u.state = .attack) ∧ (u.context.isStruck = true ↔ u.state = .sounding) ∧
    (u.pitch ≠ .none ↔ u.context.isStruck = true) ∧ (u.monitor.cause.isSome = true ↔ u.state.faulted = true) ∧
    (u.state = .off → u.monitor = .clear) ∧ (u.monitor.wait ≠ 0 → u.state = .faultWait) ∧
    (u.monitor.test ≠ 0 → u.state = .faultTest) ∧ (u.damp ≠ 0 → u.state = .damped) ∧ u.refusing = false

/-- Every string's blocks agree, and while the pickup receiver is in HUNT no string is in ATTACK, SOUNDING or DAMPED
(R34). -/
def StringsAgree (s : State) : Prop :=
  (∀ n, (s.unit n).Agrees (s.record n)) ∧
    (s.pickup.receiver.state = .hunt → ∀ n, (s.unit n).state.sounds = false)

/-! ### Note groups -/

/-- The channel of a string's open group once the message in flight has completed, or none (R124). -/
def channelAfter (tx : TxState) (n : StringNo) (group : Option Group) : Option Nat :=
  match tx with
  | .sending m =>
    match m.item with
    | .strike n' channel _ => if n' = n then some channel else group.map Group.channel
    | .lift n' => if n' = n then none else group.map Group.channel
    | .shift _ _ | .other => group.map Group.channel
  | .ready | .aborting => group.map Group.channel

/-- The channel of the open group after the records of a queue have been delivered; `none` outside when the records would
strike a group that is open, or shift one on another channel. A SHIFT or LIFT without an open group is discarded (R121). -/
def deliver : Option Nat → List NoteRecord → Option (Option Nat)
  | channel, [] => some channel
  | none, .strike c _ _ _ _ _ :: rest => deliver (some c) rest
  | some _, .strike _ _ _ _ _ _ :: _ => none
  | none, .shift _ _ _ _ _ :: rest => deliver none rest
  | some c, .shift c' _ _ _ _ :: rest => if c = c' then deliver (some c) rest else none
  | _, .lift _ _ :: rest => deliver none rest

/-- The channel of the announced note of a context, or none (R93). -/
def Context.announcedChannel : Context → Option Nat
  | .struck note => if note.announced then note.zone.map ZoneCopy.channel else none
  | .pending _ | .empty => none

/-- The context holds an announced note. -/
def Context.isAnnounced : Context → Bool
  | .struck note => note.announced
  | .pending _ | .empty => false

/-- A STRIKE of string `n` is the message in flight. -/
def strikeInFlight (n : StringNo) : TxState → Bool
  | .sending m =>
    match m.item with
    | .strike n' _ _ => n' == n
    | .shift _ _ | .lift _ | .other => false
  | .ready | .aborting => false

/-- The note groups of one string are whole (R93, R108, R121): delivering what is in flight and what is queued leaves a
group open exactly when the note in progress is announced, on that note's channel; an announced note has a zone, leaves
room for its LIFT, and stands in no MUTED string. -/
abbrev StringUnit.Grouped (mode : OutputMode) (tx : TxState) (n : StringNo) (u : StringUnit) : Prop :=
  deliver (channelAfter tx n u.group) u.queue = some u.context.announcedChannel ∧
    (strikeInFlight n tx = true → u.group = none) ∧
    (u.context.isAnnounced = true → u.context.announcedChannel.isSome = true ∧ u.queue.length ≤ 7 ∧ mode ≠ .muted)

/-- The note groups of every string are whole. -/
def GroupsWhole (s : State) : Prop := ∀ n, (s.unit n).Grouped (s.record n).outputMode s.tx.state n

/-! ### Trackers -/

/-- A period in the range of R58. -/
abbrev periodInRange (t : Nat) : Prop := 65536 ≤ t ∧ t ≤ 67107840

/-- An alive candidate that has passed a test has a last sum of `k` valid intervals, and the history holds its two windows
(R37, R49). -/
def Candidate.Sound (k : Nat) (history : List Nat) (c : Candidate) : Prop :=
  c.alive = true → 1 ≤ c.passes → 2 * k ≤ history.length ∧ ∃ sum, c.lastSum = some sum ∧ 256 * k ≤ sum ∧ sum ≤ 65535 * k

/-- The candidates are sound (R37). -/
def Candidates.Sound (history : List Nat) (c : Candidates) : Prop :=
  c.c1.Sound 1 history ∧ c.c2.Sound 2 history ∧ c.c3.Sound 3 history ∧ c.c4.Sound 4 history

/-- The tracker's items are in the ranges of R37 and R58: valid intervals, k and T exactly in LOCKED, T and J in range, and
sound candidates in SEARCH. -/
def Tracker.Sound (t : Tracker) : Prop :=
  (∀ i ∈ t.history, 256 ≤ i ∧ i ≤ 65535) ∧ (t.lock = .locked ↔ t.k.isSome = true) ∧
    (t.k.isSome = true ↔ t.period.isSome = true) ∧ (∀ p, t.period = some p → periodInRange p) ∧
    (∀ j, t.jump = some j → periodInRange j ∧ t.lock = .locked) ∧
    (t.lock = .search → t.misses = 0 ∧ t.candidates.Sound t.history)

/-- Every string's tracker is sound, with the report of a lock that is due. -/
def TrackersSound (s : State) : Prop :=
  ∀ n, (s.unit n).tracker.Sound ∧ ∀ report, (s.unit n).due.lock = some report → periodInRange report.period

/-! ### Numbers sent -/

/-- The fields of a note record are in range (R87, R88): channel 1…16, note 0…127, velocity 1…127. -/
def NoteRecord.InRange : NoteRecord → Prop
  | .strike channel note velocity _ _ _ => (1 ≤ channel ∧ channel ≤ 16) ∧ note ≤ 127 ∧ 1 ≤ velocity ∧ velocity ≤ 127
  | .shift channel note _ _ _ => (1 ≤ channel ∧ channel ≤ 16) ∧ note ≤ 127
  | .lift _ _ => True

/-- A zone copy is in range (R84). -/
abbrev ZoneCopy.InRange (z : ZoneCopy) : Prop :=
  (1 ≤ z.channel ∧ z.channel ≤ 16) ∧ -48 ≤ z.transpose ∧ z.transpose ≤ 48 ∧ z.bendRange ≤ 24

/-- The numbers of one string that the part sends or reports are in range (R70, R81, R111, R118): notes, channels,
velocities, GLIDE values, PRESS levels, Q and N_raw. -/
def StringUnit.InRange (u : StringUnit) : Prop :=
  (∀ r ∈ u.queue, r.InRange) ∧
    (∀ g, u.glide = some g → (1 ≤ g.channel ∧ g.channel ≤ 16) ∧ -1536 ≤ g.value ∧ g.value ≤ 1536) ∧
    (∀ p, u.press = some p → (1 ≤ p.channel ∧ p.channel ≤ 16) ∧ p.level ≤ 127) ∧
    (∀ g, u.group = some g → (1 ≤ g.channel ∧ g.channel ≤ 16) ∧ g.note ≤ 127) ∧
    (∀ note, u.context = .struck note → note.held ≤ 127 ∧ (∀ z, note.zone = some z → z.InRange) ∧
      ∀ o, note.output = some o → o ≤ 127) ∧
    ∀ q raw, u.pitch = .held q raw ∨ u.pitch = .tracking q raw → q ≤ 8191 ∧ raw ≤ 127

/-- The note that a message in flight delivers at its completion is in range (R124). -/
def TxState.InRange : TxState → Prop
  | .sending m =>
    match m.item with
    | .strike _ channel note => (1 ≤ channel ∧ channel ≤ 16) ∧ note ≤ 127
    | .shift _ note => note ≤ 127
    | .lift _ | .other => True
  | .ready | .aborting => True

/-- Every number the part sends is in range. -/
def NumbersInRange (s : State) : Prop := (∀ n, (s.unit n).InRange) ∧ s.tx.state.InRange

end Sys2Proof.Machine

namespace Sys2Proof.Machine

/-! ### Words the claims use -/

/-- No table step of any string is due. -/
def State.NothingDue (s : State) : Prop := ∀ n, (s.unit n).due = .none

/-- A request would be executed: the clock is PRESENT and the answer queue has room (R164, R176). -/
def State.Serves (s : State) : Prop := s.synth.clock = .present ∧ s.answers.length ≤ 3

/-- The part with one more ANSWER in its queue: address, $10, request kind, tag, result code, quick status, data, CRC, all
as the part stands (R178, R192). -/
def State.answered (kind tag : Byte) (result : Nat) (data : List Byte) (s : State) : State :=
  { s with answers := s.answers ++
      [withCrc ([byte s.tables.device.address, 0x10#8, kind, tag, byte result] ++ s.quick ++ data)] }

/-- The due events of a string that touch only the string, taken in the canonical order (log 3). -/
def StringUnit.settleOwn (tb : Tables) (n : StringNo) (u : StringUnit) : StringUnit :=
  let r := tb.strings.get n
  takeLock tb n (takeLockLoss (takeStale (takeDampExit (takeExpiry tb n (takeRelease r (takeReport tb n u))))))

/-- The message in flight has sent its LAST byte, and its completion is due (R119). -/
def Transmitter.CompletionDue (tx : Transmitter) : Prop :=
  ∃ m, tx.state = .sending m ∧ m.bytes.length ≤ m.position

/-- The other strings of a string. -/
def StringNo.others (n : StringNo) : List StringNo := StringNo.all.filter fun t => t ≠ n

/-- Every invariant of this file. -/
structure Sound (s : State) : Prop where
  bounded : Bounded s
  clocked : StoreClocked s
  consecutive : StoreConsecutive s
  tables : TablesSound s.tables
  agree : StringsAgree s
  groups : GroupsWhole s
  trackers : TrackersSound s
  numbers : NumbersInRange s

end Sys2Proof.Machine
end

