-- ==== Sys2Proof/WellFormed.lean ====
section
/-! DEFINITION. Which commands can stand on the links at all: a message fits the 64-byte receive buffer
(R168, R169), a request's body fits a message (R191), and REQUEST_BAD_KIND names no request (R177). -/

namespace Sys2Proof

/-- The kind byte names one of PUT, GET, MODE, CLEAR, DAMP, STATUS, COUNTERS, RESET (R177, R191). -/
def isRequestKind (kind : Byte) : Bool := 0x20#8 ≤ kind && kind ≤ 0x27#8

/-- A message fits the receive buffer (R168). -/
def fitsBuffer (message : List Byte) : Bool := message.length ≤ 64

/-- A body fits a message: address, kind and two CRC bytes stand beside it (R191). -/
def fitsBody (body : List Byte) : Bool := body.length ≤ 60

/-- The check of a command's fields. -/
def Instr.wellFormed : Instr → Bool
  | .powerOn => true
  | .pickupForwardFrame _ _ => true
  | .lock _ | .lockLoss _ | .staleCrossing _ | .strikeDeadlineExpiry _ | .release _ => true
  | .faultEntry _ | .faultWaitEnd _ | .recovery _ | .dampExit _ => true
  | .pickupHuntEntry | .pickupSyncEntry => true
  | .converterMessage m => fitsBuffer m
  | .synthForwardFrame _ | .transmissionComplete | .synthReturnFrame _ _ => true
  | .synthReceiverHuntEntry | .synthReceiverSyncEntry => true
  | .relayUpMessage m => fitsBuffer m
  | .clockLost | .clockReturn => true
  | .requestBadKind k b => !isRequestKind k && fitsBody b
  | .put b | .get b | .mode b | .clear b | .damp b | .status b | .counters b => fitsBody b
  | .resetTracking _ _ | .resetFull _ _ => true

end Sys2Proof
end

