-- ==== Sys2Proof/Certificates/Slice0/Obligations.lean ====
section
/-! DEFINITION. The statements for the provers. Each docstring names the rules a statement formalises; where a clause rests
on a choice of the model it says so and names the log entry. -/

section
open Sys2Proof Sys2Proof.Machine

/-! ### The queue of commands, power-on, and the invariants -/

/-- The part takes the command at the front of its queue and runs it with the queue's rest; on an empty queue it idles. The
queue and the idling are the model's own (log 9). -/
def Obligations.StepRunsFrontCommand : Prop :=
  (∀ (c : Instr) (rest : List Instr) (s : State), s.pending = c :: rest → step s = exec c { s with pending := rest }) ∧
    ∀ s : State, s.pending = [] → step s = .next s

/-- Every command answers a next state: no rule of the manual stops the part. That it leaves the waiting commands alone is about
the model's own queue (log 9; for POWER_ON log 13, DESIGN CHOICE). -/
def Obligations.CommandsCompleteAndKeepQueue : Prop :=
  ∀ (c : Instr) (s : State), ∃ t, exec c s = .next t ∧ t.pending = s.pending

/-- The power-on columns of R14, R35, R56, R79, R105, R107, R111, R118, R131, R146, R149, R162, R164, R165, R167, R168, R173,
R176, R185 and R188, with the start values of R38 and the defaults of R3, R84, R89 and R180 written out. Turns, due steps and the
lock decision are the model's own items (logs 1, 7): no step is due. That the waiting commands and the count of drawn free values
stay is the model's own too (log 13). -/
def Obligations.PowerOnGivesPowerOnState : Prop :=
  let revived : Candidate := ⟨true, 0, none⟩
  (Candidates.revived = ⟨revived, revived, revived, revived⟩ ∧ ∀ run, Tracker.fresh run =
    { run := run, lock := .search, samples := 0, turns := 0, l := 0, prevL := 0, detector := .disarmed, zeroSinceArmed := false,
      zero := none, ref := none, stale := 4096, history := [], candidates := ⟨revived, revived, revived, revived⟩, k := none,
      period := none, jump := none, misses := 0, decided := false }) ∧
  ∀ s : State, ∃ t, exec .powerOn s = .next t ∧ t.tables = .default ∧ t.index = 0 ∧ t.inProcess = none ∧
    t.tables.device = { address := 16, fA := 44000, fs := 48000, faultNotices := true, recoverNotices := true, slipNotices := true,
                        linkNotices := true } ∧
    (∀ n, t.tables.strings.get n =
      { enable := true, outputMode := .active, sampleMode := .cancelled, attach := 40000, releaseThreshold := 12000,
        releaseHold := 240, decayShift := 10, velocitySpan := 4000000, lowPassShift := 2, hysteresisShift := 3, tolerance := 10,
        loopShift := 2, confirm := 2, strikeDeadline := 240, noteHysteresis := 8, reattackRatio := 24, reattackGuard := 480,
        glideStep := 1, glideInterval := 48, pressInterval := 96, clipLevel := 8380000, clipCount := 32, stuckCount := 16,
        converterFlagUse := true, faultLatch := false, faultWait := 4, faultTest := 2, dampTime := 2400,
        zoneHead := some (Fin.ofNat 32 (n.num - 1)) }) ∧
    (∀ n m : StringNo, (t.tables.matrix.get n).get m = 0) ∧
    (∀ i : Fin 32, t.tables.zones.get i =
      { low := if i.val ≤ 5 then 0 else 127, high := if i.val ≤ 5 then 127 else 0, channel := if i.val ≤ 5 then i.val + 1 else 1,
        transpose := 0, mode := .bend, bendRange := 12, curve := 0, next := none }) ∧
    t.tables.curves.toList.map Vector.toList =
      [[1, 9, 18, 26, 35, 43, 51, 60, 68, 77, 85, 93, 102, 110, 119, 127],
       [1, 34, 47, 57, 66, 74, 81, 87, 93, 99, 104, 109, 114, 118, 123, 127],
       [1, 2, 3, 6, 10, 15, 21, 28, 37, 46, 57, 69, 82, 96, 111, 127], List.replicate 16 100] ∧
    (∀ n, (t.unit n).state = .idle ∧ (t.unit n).env = ⟨0, 0, 0, 0, 0⟩ ∧ (t.unit n).damp = 0 ∧
      (t.unit n).tracker = .fresh .stopped ∧ (t.unit n).context = .empty ∧ (t.unit n).pitch = .none ∧
      (t.unit n).monitor = ⟨0, 0, none, false, none, 0, 0, 0⟩ ∧ (t.unit n).queue = [] ∧ (t.unit n).glide = none ∧
      (t.unit n).press = none ∧ (t.unit n).refusing = false ∧ (t.unit n).group = none ∧ (t.unit n).counters = ⟨0, 0, 0, 0, 0, 0, 0⟩ ∧
      (t.unit n).due = ⟨none, none, none, false, none, none, none, none, false, false⟩) ∧
    (t.store.state = .halted ∧ t.store.fill = 0 ∧ t.store.write = 0 ∧ t.store.read = 0 ∧ t.store.held = 0) ∧
    t.pickup = ⟨⟨.hunt, 0, 0⟩, none, .ready⟩ ∧ t.synth = ⟨.absent, ⟨.hunt, 0, 0⟩, none⟩ ∧
    t.tx = ⟨.ready, .s6, .s6, []⟩ ∧ t.relayUp = [] ∧ t.relayDown = [] ∧ t.answers = [] ∧
    t.link = ⟨0, 0, 0, 0, 0, 0, 0, 0, 0, 0, 0, 0⟩ ∧ t.pending = s.pending ∧ t.drawn = s.drawn

/-- Every invariant holds of the part right after power-on. -/
def Obligations.SoundAtReset : Prop := Sound State.reset

/-- Every step keeps every queue, buffer, history and counter within its capacity, and tracker times within their moduli (R37,
R48, R107, R117, R168, R173, R176, R185). -/
def Obligations.CapacitiesKept : Prop :=
  ∀ s t : State, Bounded s → step s = .next t → Bounded t

/-- Every step keeps the fill in the range of the store's state, the write position ahead of the read position by the fill,
and the store HALTED exactly while the clock is ABSENT (R149, R154, R157). -/
def Obligations.StoreFillKept : Prop :=
  ∀ s t : State, StoreClocked s → step s = .next t → StoreClocked t

/-- Every step keeps the records that the store may still read, or repeat, at consecutive input frame indices (R154, R158). -/
def Obligations.StoreRunKept : Prop :=
  ∀ s t : State, StoreClocked s → StoreConsecutive s → step s = .next t → StoreConsecutive t

/-- Every step keeps every table field in its range, the release threshold below A, S above A and the own-string
coefficients at 0 (R3, R84, R89, R180, R181). -/
def Obligations.TableRangesKept : Prop :=
  ∀ s t : State, TablesSound s.tables → step s = .next t → TablesSound t.tables

/-- Every step keeps the blocks of a string in agreement, and no string in ATTACK, SOUNDING or DAMPED while the pickup
receiver is in HUNT (R15, R20, R30, R34, R70, R81, R131). -/
def Obligations.StringBlocksAgreeKept : Prop :=
  ∀ s t : State, StringsAgree s → step s = .next t → StringsAgree t

/-- Every step keeps every string's note groups whole (R93, R108, R121). -/
def Obligations.NoteGroupsKeptWhole : Prop :=
  ∀ s t : State, StringsAgree s → GroupsWhole s → step s = .next t → GroupsWhole t

/-- Every step keeps the trackers' intervals, periods, jump candidates and passing candidates in their ranges (R37, R48,
R58). -/
def Obligations.TrackerRangesKept : Prop :=
  ∀ s t : State, TablesSound s.tables → TrackersSound s → step s = .next t → TrackersSound t

/-- Every step keeps every number the part sends in range: notes 0…127, velocities 1…127, channels 1…16, GLIDE values within
1536, PRESS levels 0…127, Q 0…8191 (R72, R73, R87, R88, R98). -/
def Obligations.SentNumbersKeptInRange : Prop :=
  ∀ s t : State, TablesSound s.tables → NumbersInRange s → step s = .next t → NumbersInRange t

/-! ### Formats -/

/-- A stored record read back from its own bytes is the record: every field of every table survives GET and PUT (R179, R180,
R181). The bytes stand as the tables of R195 lay them out, most significant first. -/
def Obligations.StoredRecordsRoundTrip : Prop :=
  let number := fun (bytes : List Byte) (first width : Nat) =>
    ((bytes.drop first).take width).foldl (fun v b => v * 256 + b.toNat) 0
  let bit := fun b : Bool => if b then 1 else 0
  let link := fun next : Option (Fin 32) => match next with | some i => i.val | none => 255
  (∀ d : DeviceRecord, d.Sound → readDevice d.bytes = d ∧ d.bytes.length = 7 ∧ number d.bytes 0 1 = d.address ∧
    number d.bytes 1 2 = d.fA ∧ number d.bytes 3 3 = d.fs ∧
    number d.bytes 6 1 = bit d.faultNotices + 2 * bit d.recoverNotices + 4 * bit d.slipNotices + 8 * bit d.linkNotices) ∧
  (∀ r : StringRecord, r.Sound →
    let at' := number r.bytes
    readString r.outputMode r.sampleMode r.bytes = r ∧ r.bytes.length = 43 ∧
    OutputMode.ofCode (byteAt r.bytes 1) = some r.outputMode ∧ SampleMode.ofCode (byteAt r.bytes 2) = some r.sampleMode ∧
    at' 0 1 = bit r.enable ∧ at' 1 1 = (match r.outputMode with | .active => 0 | .frozen => 1 | .muted => 2) ∧
    at' 2 1 = (match r.sampleMode with | .raw => 0 | .cancelled => 1 | .zero => 2) ∧ at' 3 3 = r.attach ∧
    at' 6 3 = r.releaseThreshold ∧ at' 9 2 = r.releaseHold ∧ at' 11 1 = r.decayShift ∧ at' 12 3 = r.velocitySpan ∧
    at' 15 1 = r.lowPassShift ∧ at' 16 1 = r.hysteresisShift ∧ at' 17 1 = r.tolerance ∧ at' 18 1 = r.loopShift ∧
    at' 19 1 = r.confirm ∧ at' 20 2 = r.strikeDeadline ∧ at' 22 1 = link r.zoneHead ∧ at' 23 1 = r.noteHysteresis ∧
    at' 24 1 = r.reattackRatio ∧ at' 25 2 = r.reattackGuard ∧ at' 27 1 = r.glideStep ∧ at' 28 2 = r.glideInterval ∧
    at' 30 2 = r.pressInterval ∧ at' 32 3 = r.clipLevel ∧ at' 35 1 = r.clipCount ∧ at' 36 1 = r.stuckCount ∧
    at' 37 1 = bit r.converterFlagUse ∧ at' 38 1 = bit r.faultLatch ∧ at' 39 1 = r.faultWait ∧ at' 40 1 = r.faultTest ∧
    at' 41 2 = r.dampTime) ∧
  (∀ (n : StringNo) (row : CrosstalkRow), RowSound n row → readRow n (rowBytes row) = row ∧ (rowBytes row).length = 12 ∧
    ∀ t : StringNo, (number (rowBytes row) (2 * (t.num - 1)) 2 : Int) = row.get t % 65536) ∧
  (∀ z : ZoneRecord, z.Sound → readZone z.mode z.bytes = z ∧ z.bytes.length = 8 ∧
    ZoneMode.ofCode (byteAt z.bytes 4) = some z.mode ∧ number z.bytes 0 1 = z.low ∧ number z.bytes 1 1 = z.high ∧
    number z.bytes 2 1 = z.channel ∧ (number z.bytes 3 1 : Int) = z.transpose % 256 ∧
    number z.bytes 4 1 = (match z.mode with | .bend => 0 | .step => 1) ∧ number z.bytes 5 1 = z.bendRange ∧
    number z.bytes 6 1 = z.curve.val ∧ number z.bytes 7 1 = link z.next) ∧
  ∀ c : Curve, CurveSound c → readCurve (curveBytes c) = c ∧ (curveBytes c).length = 16 ∧
    ∀ i : Fin 16, number (curveBytes c) i.val 1 = c.get i

/-- A message the part builds is its address, its kind, its body and the CRC of these, high byte first, and passes the receiver's
check (R123, R170, R171, R191). The CRC is the register of R171: $FFFF at the start, each byte's bits from the most significant, and
the generator $8005 combined after the shift where the bit differs from the register's top bit. A good message with one byte changed
fails the check (derived from that computation). The bodies stand as R192 lays them out. -/
def Obligations.BuiltMessagesPassCheck : Prop :=
  let take := fun (register : BitVec 16) (bit : Bool) =>
    (register <<< 1) ^^^ if (register.getLsbD 15 ^^ bit) = true then 0x8005#16 else 0#16
  let bits := fun b : Byte => (List.range 8).map fun i => b.getLsbD (7 - i)
  let check := fun bytes : List Byte =>
    let register := (bytes.flatMap bits).foldl take 0xFFFF#16
    [register.extractLsb' 8 8, register.extractLsb' 0 8]
  (∀ bytes : List Byte, withCrc bytes = bytes ++ check bytes ∧
    ∀ high low, crcGood (bytes ++ [high, low]) = true ↔ [high, low] = check bytes) ∧
  (∀ (device : DeviceRecord) (kind : Byte) (body : List Byte),
    let checked := [BitVec.ofNat 8 device.address, kind] ++ body
    message device kind body = checked ++ check checked ∧ crcGood (message device kind body) = true) ∧
  (∀ (m : List Byte) (i : Nat) (b : Byte), 2 ≤ m.length → crcGood m = true → (h : i < m.length) → m[i] ≠ b →
    crcGood (m.set i b) = false) ∧
  ∀ (n : StringNo) (channel note velocity : Nat) (stamp : Index) (first second : Bool) (cause : LiftCause) (g : Glide)
    (p : Press),
    let b := fun v : Nat => BitVec.ofNat 8 v
    let stamped := fun i : Index => [i.extractLsb' 8 8, i.extractLsb' 0 8]
    let flags := [b ((if first then 1 else 0) + if second then 2 else 0)]
    strikeBody n channel note velocity stamp first second =
      [b n.num, b channel, b note, b velocity] ++ stamped stamp ++ flags ∧
    shiftBody n channel note stamp first second = [b n.num, b channel, b note] ++ stamped stamp ++ flags ∧
    liftBody n ⟨channel, note⟩ stamp cause = [b n.num, b channel, b note] ++ stamped stamp ++
      [b (match cause with
        | .release => 1 | .reattack => 2 | .fault => 3 | .link => 4 | .forced => 5 | .disabled => 6 | .reset => 7 | .mute => 8)] ∧
    glideBody n g = [b n.num, b g.channel] ++ stamped (BitVec.ofInt 16 g.value) ++ stamped g.stamp ++
      [b (if g.clamped then 1 else 0)] ∧
    pressBody n p = [b n.num, b p.channel, b p.level] ++ stamped p.stamp ∧
    noticeMessage (.fault n .clip) = (8, [b n.num, 1]) ∧ noticeMessage (.fault n .stuck) = (8, [b n.num, 2]) ∧
    noticeMessage (.fault n .converter) = (8, [b n.num, 3]) ∧ noticeMessage (.recover n) = (9, [b n.num]) ∧
    noticeMessage (.slip .repeat note) = (10, [1, b note]) ∧ noticeMessage (.slip .drop note) = (10, [2, b note]) ∧
    noticeMessage (.link .pickupDown) = (11, [1, 1]) ∧ noticeMessage (.link .pickupUp) = (11, [1, 2]) ∧
    noticeMessage (.link .synthRestored) = (11, [2, 3])

/-- The fields of the frames the part builds, a synth forward frame and a pickup return frame, stand where R190 puts them, with 0
in the unused bits, and the fields of the frames it receives, a pickup forward frame and a synth return frame, are read from there
(R189, R190). That frame bit 0 is the most significant bit of the word is the model's way to write a frame (log 11). -/
def Obligations.SynthFrameFieldsInPlace : Prop :=
  let field (f : FrameBits) (first width : Nat) : BitVec width := f.extractLsb' (256 - first - width) width
  let code : Tag → BitVec 2 := fun tag => match tag with | .idle => 0#2 | .first => 1#2 | .mid => 2#2 | .last => 3#2
  (∀ (record : FrameRecord) (prefill inSync : Bool) (tag : Tag) (side : Byte),
    let f := synthForwardFrame record prefill inSync tag side
    field f 0 16 = 0xC6B3#16 ∧
      (∀ n : StringNo, field f (16 + 24 * (n.num - 1)) 24 = BitVec.ofInt 24 (record.samples.get n)) ∧
      field f 160 16 = record.index ∧ field f 176 1 = BitVec.ofBool prefill ∧ field f 177 1 = BitVec.ofBool inSync ∧
      field f 178 2 = code tag ∧ field f 180 8 = side ∧ field f 188 68 = 0#68) ∧
  (∀ (tag : Tag) (side : Byte),
    let f := pickupReturnFrame tag side
    field f 0 16 = 0xC6B3#16 ∧ field f 16 2 = code tag ∧ field f 18 8 = side ∧ field f 26 230 = 0#230) ∧
  ∀ f : FrameBits,
    (goodSync f = true ↔ field f 0 16 = 0xC6B3#16) ∧
    (∀ n : StringNo, frameSample f n = (field f (16 + 24 * (n.num - 1)) 24).toInt ∧
      (frameFlag f n = true ↔ field f (160 + (n.num - 1)) 1 = 1#1)) ∧
    code (pickupTag f) = field f 166 2 ∧ pickupSide f = field f 168 8 ∧
    code (returnTag f) = field f 16 2 ∧ returnSide f = field f 18 8

/-! ### Canceller and envelope -/

/-- The cancelled sample of a string is its raw sample less its five terms, each the exact quotient rounded to the nearest
integer with halves away from zero, saturated (R4, R5, R6). -/
def Obligations.CancelledSamplesExact : Prop :=
  ∀ (matrix : Six CrosstalkRow) (states : Six StringState) (raw : Six Int) (n : StringNo),
    let x := fun t => if (states.get t).faulted then 0 else raw.get t
    let term := fun t => (((matrix.get n).get t * x t).sign * ⌊(((matrix.get n).get t * x t).natAbs : ℚ) / 32768 + 1 / 2⌋ : Int)
    (cancel matrix states raw).get n =
      max (-8388608) (min 8388607 (raw.get n - ((StringNo.others n).map term).sum))

/-- A faulted string's raw sample reaches no other string's cancelled sample (R4). -/
def Obligations.FaultedNeighbourDropsOut : Prop :=
  ∀ (matrix : Six CrosstalkRow) (states : Six StringState) (raw : Six Int) (n t : StringNo) (x : Int),
    n ≠ t → (states.get t).faulted = true →
      (cancel matrix states (raw.set t x)).get n = (cancel matrix states raw).get n

/-- The work of the envelope unit on a cancelled sample (R15 to R19, R21, R22, R24, R28, R29, R82, R83). Where it runs, the level
becomes the larger of the magnitude and the decayed level. An IDLE string attacks exactly from A up. In ATTACK the peak, the guard
timer and the release-hold count move; in SOUNDING the valley, the guard timer and the count. RELEASE is due when the count
reaches the release hold. Otherwise a SOUNDING string re-attacks exactly when the guard has expired, e is at A or above, and
e × 8 is at least V × R: its note ends with a REATTACK LIFT where a LIFT is taken. The frame mark counts a running deadline,
whose expiry is due at 0, or the timers of a STRUCK note, and then the pressure level is judged. That the tracker's restart, the
mark and the pressure level belong to this one act is the model's (logs 30, 31, DESIGN CHOICE). -/
def Obligations.EnvelopeLevelAndTests : Prop :=
  ∀ (r : StringRecord) (y : Int) (stamp : Index) (u : StringUnit),
    let level := max (min y.natAbs 8388607) (u.env.level - u.env.level / 2 ^ r.decayShift)
    let after := envelopeSample r y stamp u
    let hold := if level < r.releaseThreshold then u.env.hold + 1 else 0
    let attacked := fun v : StringUnit =>
      { v with state := .attack, env := ⟨level, level, level, r.reattackGuard, 0⟩, tracker := .fresh .running,
               context := .pending (if r.strikeDeadline = 0 then .stopped else .running r.strikeDeadline),
               pitch := .none, due := { u.due with expiry := none } }
    let marked := fun v : StringUnit =>
      match v.context with
      | .pending (.running count) =>
        { v with context := .pending (.running (count - 1)),
                 due := { v.due with expiry := if count ≤ 1 then some stamp else v.due.expiry } }
      | .struck note =>
        { v with context := .struck { note with glideTimer := note.glideTimer - 1, pressTimer := note.pressTimer - 1 } }
      | .pending .stopped | .pending .waiting | .empty => v
    let released := fun v : StringUnit => { v with due := { v.due with release := some stamp } }
    ((u.state = .idle ∨ u.state = .attack ∨ u.state = .sounding ∨ u.state = .damped) → after.env.level = level) ∧
    ((u.state = .off ∨ u.state.faulted = true) → after = u) ∧
    (u.state = .idle → r.attach ≤ level → after = attacked u) ∧
    (u.state = .idle → level < r.attach → after = { u with env := { u.env with level := level } }) ∧
    (u.state = .attack →
      let v := { u with env := ⟨level, max u.env.peak level, u.env.valley, u.env.guard - 1, hold⟩ }
      after = marked (if r.releaseHold ≤ hold then released v else v)) ∧
    (u.state = .sounding →
      let v := { u with env := ⟨level, u.env.peak, min u.env.valley level, u.env.guard - 1, hold⟩ }
      let again := u.env.guard ≤ 1 ∧ r.attach ≤ level ∧ min u.env.valley level * r.reattackRatio ≤ level * 8
      (r.releaseHold ≤ hold → after = marked (released v)) ∧
      (hold < r.releaseHold → ¬ again →
        after = pressDecision r (min 127 (127 * level / r.velocitySpan)) stamp (marked v)) ∧
      (hold < r.releaseHold → again → after.state = .attack ∧ ∀ note, u.context = .struck note →
        (note.announced = false ∨ u.accepts r.outputMode = false ∨ 8 ≤ u.queue.length → after = attacked v) ∧
        (note.announced = true → u.accepts r.outputMode = true → u.queue.length ≤ 7 → after = attacked
          { v with queue := u.queue ++ [.lift stamp .reattack], glide := none, press := none })))

/-! ### The steps of one string -/

/-- RELEASE (R25, R26). In ATTACK it is a ghost: IDLE, e kept, tracker stopped, context cleared with no record, the ghost
counter up by 1. In SOUNDING it ends the note: a LIFT with cause RELEASE and the frame's index behind the queue of an announced
note, both slots emptied (R112); no record of an unannounced one, or where no LIFT is taken. Nothing else of the part changes. -/
def Obligations.ReleaseEndsTracking : Prop :=
  ∀ (n : StringNo) (stamp : Index) (s : State),
    let u := s.unit n
    let v := { u with state := .idle, env := ⟨u.env.level, 0, 0, 0, 0⟩, tracker := .fresh .stopped, context := .empty,
                      pitch := .none, due := { u.due with release := none, expiry := none } }
    u.due.release = some stamp →
    (u.state = .attack →
      exec (.release n) s =
        .next (s.setUnit n { v with counters := { u.counters with ghosts := min 65535 (u.counters.ghosts + 1) } })) ∧
    (∀ note, u.state = .sounding → u.context = .struck note → note.announced = true →
      u.accepts (s.record n).outputMode = true → u.queue.length ≤ 7 →
      exec (.release n) s =
        .next (s.setUnit n { v with queue := u.queue ++ [.lift stamp .release], glide := none, press := none })) ∧
    (∀ note, u.state = .sounding → u.context = .struck note →
      note.announced = false ∨ u.accepts (s.record n).outputMode = false ∨ 8 ≤ u.queue.length →
      exec (.release n) s = .next (s.setUnit n v))

/-- DAMP_EXIT (R33, R143): a DAMPED string whose exit the arrival made due goes to IDLE and keeps e, whatever release threshold
has been written since; the step is due exactly when the arrival leaves the damp timer at 0 and e below the release threshold as
the record then stood. A DAMP taken in between has loaded the timer: the string stays DAMPED while it stands above 0, and goes
to IDLE at the step where the damp time is 0 (log 1, DESIGN CHOICE). -/
def Obligations.DampExitGoesIdle : Prop :=
  (∀ (n : StringNo) (s : State), (s.unit n).due.dampExit = true → (s.unit n).state = .damped →
    ((s.unit n).damp = 0 → exec (.dampExit n) s =
      .next (s.setUnit n { s.unit n with state := .idle, due := { (s.unit n).due with dampExit := false } })) ∧
    (1 ≤ (s.unit n).damp → exec (.dampExit n) s =
      .next (s.setUnit n { s.unit n with due := { (s.unit n).due with dampExit := false } }))) ∧
  ∀ (r : StringRecord) (y : Int) (stamp : Index) (u : StringUnit), u.state = .damped →
    let after := envelopeSample r y stamp u
    after.damp = u.damp - 1 ∧ after.state = .damped ∧
      (after.due.dampExit = true ↔ u.damp ≤ 1 ∧ after.env.level < r.releaseThreshold)

/-- LOCK on a PENDING context (R51, R53, R86, R90, R91): the tracker is LOCKED with the report's k and T, J absent and no miss;
the string is SOUNDING, the pitch TRACKING at the Q of T; on a zone match the STRIKE joins a queue of 6 or less and the note is
announced, else it is unannounced and, for want of room, counted as lost; without a match it is counted as unzoned, and its timers and
last offered values, which no rule sets, are held at 0 (log 18, DESIGN CHOICE). The GLIDE decision follows. A tracker restarted or
stopped since the decision keeps its values, and the report strikes the note all the same (R69; log 20, DEDUCED). At a string that
has left ATTACK and SOUNDING, or an EMPTY context, the report is discarded (R27, R30, R76). -/
def Obligations.LockStrikesPendingNote : Prop :=
  ∀ (n : StringNo) (report : LockReport) (deadline : Deadline) (s : State),
    let u := s.unit n
    let r := s.record n
    let q := pitchOf s.tables.device report.period
    let raw := rawNote q
    let taken := { u with due := { u.due with lock := none },
                          tracker := if u.tracker.decided = true then
                              { u.tracker with lock := .locked, k := some report.k, period := some report.period, jump := none,
                                               misses := 0, decided := false }
                            else u.tracker }
    let v := { taken with state := .sounding, pitch := .tracking q raw }
    u.due.lock = some report →
    ((u.state ≠ .attack ∧ u.state ≠ .sounding) ∨ u.context = .empty → exec (.lock n) s = .next (s.setUnit n taken)) ∧
    (u.state = .attack → u.context = .pending deadline → zoneSearch s.tables.zones r.zoneHead raw = none →
      exec (.lock n) s = .next (s.setUnit n
        { v with context := .struck ⟨raw, none, false, false, none, 0, 0, 0, 0⟩,
                 counters := { u.counters with unzoned := min 65535 (u.counters.unzoned + 1) } })) ∧
    ∀ z, u.state = .attack → u.context = .pending deadline → zoneSearch s.tables.zones r.zoneHead raw = some z →
      let output := fold (raw + z.transpose)
      let zone : ZoneCopy := ⟨z.channel, z.transpose, z.mode, z.bendRange, z.curve⟩
      let note := fun announced => Context.struck ⟨raw, some zone, announced, false, some output, 0, 0, 0, 0⟩
      (u.accepts r.outputMode = true → u.queue.length ≤ 6 →
        exec (.lock n) s = .next (s.setUnit n (glideDecision r report.stamp
          { v with context := note true,
                   queue := u.queue ++ [.strike z.channel output
                     (velocity r.attach r.velocitySpan u.env.peak (s.tables.curves.get z.curve)) report.stamp false false] }))) ∧
      (u.accepts r.outputMode = true → 7 ≤ u.queue.length →
        exec (.lock n) s = .next (s.setUnit n
          { v with context := note false, counters := { u.counters with lost := min 65535 (u.counters.lost + 1) } })) ∧
      (u.accepts r.outputMode = false → exec (.lock n) s = .next (s.setUnit n { v with context := note false }))

/-- LOCK on a STRUCK context (R95, R96): the provisional flag falls; a held note equal to N_raw is kept, any other becomes
N_raw, with the output note of a note with a zone, and a SHIFT offered for an announced one that carries CORRECTION exactly when
the note was provisional: it joins a queue of 6 or less, and at 7 it is merged or dropped (R109). The GLIDE decision follows. A
tracker restarted since the decision keeps its values (R69; log 20, DEDUCED). -/
def Obligations.LockSettlesStruckNote : Prop :=
  ∀ (n : StringNo) (report : LockReport) (note : Struck) (s : State),
    let u := s.unit n
    let r := s.record n
    let q := pitchOf s.tables.device report.period
    let raw := rawNote q
    let settled := { note with provisional := false }
    let v := { u with pitch := .tracking q raw, due := { u.due with lock := none },
                      tracker := if u.tracker.decided = true then
                          { u.tracker with lock := .locked, k := some report.k, period := some report.period, jump := none,
                                           misses := 0, decided := false }
                        else u.tracker }
    u.due.lock = some report → u.state = .sounding → u.context = .struck note →
    (raw = note.held →
      exec (.lock n) s = .next (s.setUnit n (glideDecision r report.stamp { v with context := .struck settled }))) ∧
    (raw ≠ note.held → note.zone = none →
      exec (.lock n) s = .next (s.setUnit n { v with context := .struck { settled with held := raw } })) ∧
    ∀ z, raw ≠ note.held → note.zone = some z →
      let w := { v with context := .struck { settled with held := raw, output := some (fold (raw + z.transpose)) } }
      (note.announced = false → exec (.lock n) s = .next (s.setUnit n w)) ∧
      (note.announced = true → exec (.lock n) s = .next (s.setUnit n (glideDecision r report.stamp
        (offerShift r.outputMode z.channel (fold (raw + z.transpose)) report.stamp note.provisional w)))) ∧
      (note.announced = true → u.accepts r.outputMode = true → u.queue.length ≤ 6 →
        exec (.lock n) s = .next (s.setUnit n (glideDecision r report.stamp
          { w with queue := u.queue ++ [.shift z.channel (fold (raw + z.transpose)) report.stamp note.provisional false] })))

/-- LOCK_LOSS (R66, R75): SEARCH, the lock items absent, the newest interval alone, the candidates revived, the lock-loss
counter up by 1; a TRACKING pitch is HELD at its Q and N_raw; nothing else changes. -/
def Obligations.LockLossReturnsToSearch : Prop :=
  ∀ (n : StringNo) (stamp : Index) (s : State),
    let u := s.unit n
    let tr := u.tracker
    u.due.lockLoss = some stamp → tr.lock = .locked → 3 ≤ tr.misses →
    ∀ pitch, (pitch = match u.pitch with | .tracking q raw => Pitch.held q raw | p => p) →
      exec (.lockLoss n) s = .next (s.setUnit n
        { u with tracker := { tr with lock := .search, k := none, period := none, jump := none, misses := 0,
                                      history := tr.history.getLast?.toList, candidates := .revived },
                 pitch := pitch, due := { u.due with lockLoss := none },
                 counters := { u.counters with lockLosses := min 65535 (u.counters.lockLosses + 1) } })

/-- STALE_CROSSING (R47, R65): the reference crossing becomes absent and the history is cleared; in SEARCH the candidates are
revived; in LOCKED it is a miss with J cleared, and the third miss makes the lock loss due. -/
def Obligations.StaleCrossingClearsHistory : Prop :=
  ∀ (n : StringNo) (stamp : Index) (s : State),
    let u := s.unit n
    let tr := u.tracker
    u.due.stale = some stamp → tr.ref.isSome = true → tr.stale = 0 →
    (tr.lock = .search → exec (.staleCrossing n) s = .next (s.setUnit n
      { u with tracker := { tr with ref := none, history := [], candidates := .revived },
               due := { u.due with stale := none } })) ∧
    (tr.lock = .locked → tr.misses ≤ 1 → exec (.staleCrossing n) s = .next (s.setUnit n
      { u with tracker := { tr with ref := none, history := [], jump := none, misses := tr.misses + 1 },
               due := { u.due with stale := none } })) ∧
    (tr.lock = .locked → 2 ≤ tr.misses → exec (.staleCrossing n) s = .next (s.setUnit n
      { u with tracker := { tr with ref := none, history := [], jump := none, misses := 3 },
               due := { u.due with stale := none, lockLoss := some stamp } }))

/-- STRIKE_DEADLINE_EXPIRY (R54, R91): with no passing candidate the deadline is WAITING; with one, the smallest one's last sum times
256 makes a provisional STRIKE with the stamp of the frame mark, the pitch HELD and no GLIDE. At a context that is not PENDING with its
deadline run out it has no effect. A search-pass report (R92) makes one from
its own sum and stamp while the deadline is WAITING, and is discarded otherwise. A STRIKE joins a queue of 6 or less, and is
refused and counted as lost at 7; without a zone the note is counted as unzoned, and its timers and last offered values are held
at 0 (log 18, DESIGN CHOICE). A lock that is due is taken before the expiry (log 21). -/
def Obligations.DeadlineExpiryStrikesOrWaits : Prop :=
  ∀ (n : StringNo) (stamp : Index) (s : State),
    let u := s.unit n
    let r := s.record n
    let strikes := fun (v : StringUnit) (sum : Nat) (result : StringUnit → Prop) =>
      let q := pitchOf s.tables.device (256 * sum)
      let raw := rawNote q
      let w := { v with state := .sounding, pitch := .held q raw }
      (zoneSearch s.tables.zones r.zoneHead raw = none → result
        { w with context := .struck ⟨raw, none, false, true, none, 0, 0, 0, 0⟩,
                 counters := { u.counters with unzoned := min 65535 (u.counters.unzoned + 1) } }) ∧
      ∀ z, zoneSearch s.tables.zones r.zoneHead raw = some z →
        let output := fold (raw + z.transpose)
        let zone : ZoneCopy := ⟨z.channel, z.transpose, z.mode, z.bendRange, z.curve⟩
        let note := fun announced => Context.struck ⟨raw, some zone, announced, true, some output, 0, 0, 0, 0⟩
        (u.accepts r.outputMode = true → u.queue.length ≤ 6 → result
          { w with context := note true,
                   queue := u.queue ++ [.strike z.channel output
                     (velocity r.attach r.velocitySpan u.env.peak (s.tables.curves.get z.curve)) stamp true false] }) ∧
        (u.accepts r.outputMode = true → 7 ≤ u.queue.length → result
          { w with context := note false, counters := { u.counters with lost := min 65535 (u.counters.lost + 1) } }) ∧
        (u.accepts r.outputMode = false → result { w with context := note false })
    let expired := { u with due := { u.due with expiry := none } }
    let reported := { u with due := { u.due with report := none } }
    let c := u.tracker.candidates
    (u.due.expiry = some stamp → u.due.lock = none → u.context = .pending (.running 0) →
      ((∀ k : CandidateNo, (c.get k).alive = true → (c.get k).passes = 0) →
        exec (.strikeDeadlineExpiry n) s = .next (s.setUnit n { expired with context := .pending .waiting })) ∧
      ∀ (k : CandidateNo) sum, (c.get k).alive = true → 1 ≤ (c.get k).passes → (c.get k).lastSum = some sum →
        (∀ j : CandidateNo, j.num < k.num → (c.get j).alive = true → (c.get j).passes = 0) → u.state = .attack →
        strikes expired sum fun w => exec (.strikeDeadlineExpiry n) s = .next (s.setUnit n w)) ∧
    (u.due.expiry = some stamp → u.due.lock = none → u.context ≠ .pending (.running 0) →
      exec (.strikeDeadlineExpiry n) s = .next (s.setUnit n expired)) ∧
    (u.due.expiry = some stamp → u.due.lock.isSome = true → ∀ t t', exec (.lock n) s = .next t →
      exec (.strikeDeadlineExpiry n) t = .next t' → exec (.strikeDeadlineExpiry n) s = .next t') ∧
    ∀ sum, u.due.report = some (.searchPass sum, stamp) →
      (u.context = .pending .waiting → u.state = .attack →
        strikes reported sum fun w => takeReport s.tables n u = w) ∧
      (u.context ≠ .pending .waiting → takeReport s.tables n u = reported)

/-- FAULT_ENTRY (R31, R134, R135): from IDLE, ATTACK, SOUNDING or DAMPED the string enters FAULT_LATCHED or FAULT_WAIT by the
fault latch, with the envelope at 0, the tracker stopped, the cause set, the retry count at 0, the wait timer loaded, the faults
counter up by 1 and a FAULT notice offered; an announced note ends with a FAULT LIFT stamped with the frame's index, any other
with no record; in OFF and the fault states the request is discarded. -/
def Obligations.FaultEntryTakenOrDiscarded : Prop :=
  ∀ (n : StringNo) (cause : Cause) (stamp : Index) (s : State),
    let u := s.unit n
    let r := s.record n
    let v := { u with state := if r.faultLatch then .faultLatched else .faultWait, env := ⟨0, 0, 0, 0, 0⟩, damp := 0,
                      tracker := .fresh .stopped, due := { u.due with fault := none },
                      monitor := { u.monitor with cause := some cause, retries := 0, test := 0,
                                                  wait := if r.faultLatch then 0 else 1024 * r.faultWait },
                      counters := { u.counters with faults := min 65535 (u.counters.faults + 1) } }
    let cleared := { v with context := .empty, pitch := .none, due := { v.due with expiry := none } }
    u.due.fault = some (cause, stamp) →
    (u.state = .idle ∨ u.state = .damped →
      exec (.faultEntry n) s = .next ((s.setUnit n v).offerNotice (.fault n cause))) ∧
    (u.state = .attack → exec (.faultEntry n) s = .next ((s.setUnit n cleared).offerNotice (.fault n cause))) ∧
    (∀ note, u.state = .sounding → u.context = .struck note →
      note.announced = false ∨ u.accepts r.outputMode = false ∨ 8 ≤ u.queue.length →
      exec (.faultEntry n) s = .next ((s.setUnit n cleared).offerNotice (.fault n cause))) ∧
    (∀ note, u.state = .sounding → u.context = .struck note → note.announced = true → u.accepts r.outputMode = true →
      u.queue.length ≤ 7 →
      exec (.faultEntry n) s = .next ((s.setUnit n
        { cleared with queue := u.queue ++ [.lift stamp .fault], glide := none, press := none }).offerNotice
          (.fault n cause))) ∧
    (u.state = .off ∨ u.state.faulted = true →
      exec (.faultEntry n) s = .next (s.setUnit n { u with due := { u.due with fault := none } }))

/-- The runs and the conditions of the fault monitor (R132, R133, R134): the clip run counts samples at or above the clip level,
the stuck run equal samples other than 0, and the flag seen follows the channel-error flag where it is used; the cause is the
first of CONVERTER, CLIP and STUCK that is present, and outside the fault states it makes a fault entry due.
The fault windows (R136, R137, R138): a frame in FAULT_WAIT counts the wait timer and judges nothing, and the step
FAULT_WAIT_END loads the test timer; a frame in FAULT_TEST with a condition present goes back to FAULT_WAIT with the retries
counted, a clean one counts the test timer, and RECOVERY brings the string to IDLE with e at 0, the cause absent and a RECOVER
notice offered. -/
def Obligations.FaultWindowsAndRecovery : Prop :=
  (∀ (r : StringRecord) (x : Int) (channelError : Bool) (m : Monitor),
    updateRuns r x channelError m =
      { m with clipRun := if r.clipLevel ≤ x.natAbs then min 255 (m.clipRun + 1) else 0,
               stuckRun := if x = 0 then 0 else if m.last = some x then min 65535 (m.stuckRun + 1) else 1,
               last := some x, flagSeen := channelError && r.converterFlagUse } ∧
    (m.flagSeen = true → conditionPresent r m = some .converter) ∧
    (m.flagSeen = false → r.clipCount ≤ m.clipRun → conditionPresent r m = some .clip) ∧
    (m.flagSeen = false → m.clipRun < r.clipCount → 256 * r.stuckCount ≤ m.stuckRun → conditionPresent r m = some .stuck) ∧
    (m.flagSeen = false → m.clipRun < r.clipCount → m.stuckRun < 256 * r.stuckCount → conditionPresent r m = none)) ∧
  (∀ (n : StringNo) (s : State), (s.unit n).due.waitEnd = true → (s.unit n).state = .faultWait → (s.unit n).monitor.wait = 0 →
    exec (.faultWaitEnd n) s = .next (s.setUnit n
      { s.unit n with state := .faultTest, monitor := { (s.unit n).monitor with test := 256 * (s.record n).faultTest },
                      due := { (s.unit n).due with waitEnd := false } })) ∧
  (∀ (n : StringNo) (s : State), (s.unit n).due.recovery = true → (s.unit n).state = .faultTest → (s.unit n).monitor.test = 0 →
    exec (.recovery n) s = .next ((s.setUnit n
      { s.unit n with state := .idle, env := ⟨0, 0, 0, 0, 0⟩, damp := 0, tracker := .fresh .stopped,
                      monitor := { (s.unit n).monitor with cause := none, wait := 0, test := 0 },
                      due := { (s.unit n).due with recovery := false } }).offerNotice (.recover n))) ∧
  ∀ (r : StringRecord) (x : Int) (channelError : Bool) (stamp : Index) (u : StringUnit),
    let m := updateRuns r x channelError u.monitor
    let after := monitorSample r x channelError stamp u
    (u.state = .off → after = u) ∧ (u.state = .faultLatched → after = { u with monitor := m }) ∧
    (u.state = .idle ∨ u.state = .attack ∨ u.state = .sounding ∨ u.state = .damped → after =
      { u with monitor := m, due := { u.due with fault := (conditionPresent r m).map fun cause => (cause, stamp) } }) ∧
    (u.state = .faultWait → after =
      { u with monitor := { m with wait := u.monitor.wait - 1 },
               due := { u.due with waitEnd := decide (u.monitor.wait ≤ 1) } }) ∧
    (u.state = .faultTest → ∀ cause, conditionPresent r m = some cause → after =
      { u with state := .faultWait,
               monitor := { m with wait := 1024 * r.faultWait, test := 0, cause := some cause,
                                   retries := min 255 (u.monitor.retries + 1) },
               counters := { u.counters with retries := min 65535 (u.counters.retries + 1) } }) ∧
    (u.state = .faultTest → conditionPresent r m = none → after =
      { u with monitor := { m with test := u.monitor.test - 1 },
               due := { u.due with recovery := decide (u.monitor.test ≤ 1) } })

/-- A step that is not due does nothing: the model's choice for a command the part cannot raise (log 2). -/
def Obligations.StepsNotDueDoNothing : Prop :=
  ∀ (n : StringNo) (s : State),
    ((s.unit n).due.release = none → exec (.release n) s = .next s) ∧
    ((s.unit n).due.expiry = none → exec (.strikeDeadlineExpiry n) s = .next s) ∧
    ((s.unit n).due.dampExit = false → exec (.dampExit n) s = .next s) ∧
    ((s.unit n).due.stale = none → exec (.staleCrossing n) s = .next s) ∧
    ((s.unit n).due.lockLoss = none → exec (.lockLoss n) s = .next s) ∧
    ((s.unit n).due.lock = none → exec (.lock n) s = .next s) ∧
    ((s.unit n).due.fault = none → exec (.faultEntry n) s = .next s) ∧
    ((s.unit n).due.waitEnd = false → exec (.faultWaitEnd n) s = .next s) ∧
    ((s.unit n).due.recovery = false → exec (.recovery n) s = .next s) ∧
    (¬ s.tx.CompletionDue → exec .transmissionComplete s = .next s)

/-! ### The tracker, the pitch and the note engine -/

/-- Q is the exact real value of R71 rounded to the nearest integer with halves upward and clamped to 0…8191 (R72). N_raw of a Q is
the floor of (Q + 32) / 64 clamped to 0…127, as R73 forms it. -/
def Obligations.PitchIsRoundedLogarithm : Prop :=
  (∀ (d : DeviceRecord) (period : Nat), 0 < d.fs → 0 < d.fA → 0 < period →
    (pitchOf d period : Int) =
      max 0 (min 8191 ⌊(4416 + 768 * Real.logb 2 ((d.fs * 4096 : ℝ) / (period * ((d.fA : ℝ) / 100))) + 1 / 2 : ℝ)⌋)) ∧
  ∀ q : Nat, (rawNote q : Int) = max 0 (min 127 ⌊((q : ℚ) + 32) / 64⌋)

/-- The work of a RUNNING tracker on a sample (R37, R40 to R48). The low-pass value moves by the rounded quotient; a zero point
lies between the times of its two samples, at the interpolated instant (R43); times are held modulo 2^24 ticks and the sample
count modulo 2^20, beside the model's own count of turns (log 7). A crossing is counted only by an ARMED detector with l at h or
above and a zero point recorded since arming; counting disarms, and arming needs l at −h or below (R44). The first counted
crossing is the reference; after that the exact interval, in range, joins the history, whose newest 8 are kept, before the work
of the lock state, and one out of range clears the history, with a search restart or a miss (R45, R46, R48). Without a counted
crossing the stale timer counts, and a stale crossing is due at 0 (R47). A string's tracker takes the sample with h formed from the
string's level as it stands (R42); what it hands on is then due, with the frame's index: a report, a lock with its k and T, a lock
loss, a stale crossing (R53, R66, R68; the due items are the model's, log 1). A STOPPED tracker takes no sample (R39). -/
def Obligations.CrossingsCountedOnceArmed : Prop :=
  (∀ (h : Nat) (t : Tracker), (detect h t).2 = true ↔ t.detector = .armed ∧ (h : Int) ≤ t.l ∧ t.zeroSinceArmed = true) ∧
  (∀ (h : Nat) (t : Tracker), (detect h t).2 = true → (detect h t).1 = { t with detector := .disarmed }) ∧
  (∀ (h : Nat) (t : Tracker), t.detector = .armed → (detect h t).2 = false → (detect h t).1 = t) ∧
  (∀ (h : Nat) (t : Tracker), t.detector = .disarmed →
    ((detect h t).1.detector = .armed ↔ t.l ≤ -(h : Int)) ∧ (t.l ≤ -(h : Int) → (detect h t).1.zeroSinceArmed = false)) ∧
  (∀ (r : StringRecord) (y : Int) (t : Tracker),
    let t' := filterSample r y t
    let taken := t.turns * 1048576 + t.samples
    t'.l = max (-8388608) (min 8388607
      (t.l + (y - t.l).sign * ⌊((y - t.l).natAbs : ℚ) / 2 ^ r.lowPassShift + 1 / 2⌋)) ∧
    t'.prevL = t.l ∧ t'.samples < 1048576 ∧ t'.turns * 1048576 + t'.samples = taken + 1 ∧
      (¬ (t.l ≤ 0 ∧ 0 < t'.l) → t'.zero = t.zero ∧ t'.zeroSinceArmed = t.zeroSinceArmed) ∧
      (t.l ≤ 0 → 0 < t'.l → t'.zeroSinceArmed = true ∧ ∃ z, t'.zero = some z ∧ z.ticks < 16777216 ∧
        let time := z.turn * 16777216 + z.ticks
        16 * taken ≤ time ∧ time ≤ 16 * taken + 16 ∧
        (time : Int) = 16 * taken + ⌊((16 * -t.l : ℚ) / (t'.l - t.l)) + 1 / 2⌋)) ∧
  (∀ (r : StringRecord) (level : Nat) (y : Int) (t : Tracker),
    let seen := detect (level / 2 ^ r.hysteresisShift) (filterSample r y t)
    (∀ z, seen.2 = true → seen.1.zero = some z → trackSample r level y t = countCrossing r z seen.1) ∧
    (seen.2 = false → seen.1.ref = none → trackSample r level y t = (seen.1, .quiet)) ∧
    (seen.2 = false → seen.1.ref.isSome = true → trackSample r level y t =
      ({ seen.1 with stale := seen.1.stale - 1 }, if seen.1.stale ≤ 1 then .staleDue else .quiet))) ∧
  (∀ (tb : Tables) (n : StringNo) (y : Int) (stamp : Index) (u : StringUnit),
    let after := trackerSample tb n y stamp u
    let seen := trackSample (tb.strings.get n) u.env.level y u.tracker
    let v := { u with tracker := seen.1 }
    (u.tracker.run = .stopped → after = u) ∧
    (u.tracker.run = .running →
      (seen.2 = .quiet → after = v) ∧
      (∀ report, seen.2 = .report report → after = { v with due := { u.due with report := some (report, stamp) } }) ∧
      (∀ k period, seen.2 = .lockDue k period → after = { v with due := { u.due with lock := some ⟨k, period, stamp⟩ } }) ∧
      (seen.2 = .lossDue → after = { v with due := { u.due with lockLoss := some stamp } }) ∧
      (seen.2 = .staleDue → after = { v with due := { u.due with stale := some stamp } }))) ∧
  ∀ (r : StringRecord) (point : Instant) (t : Tracker),
    let counted := { t with ref := some point, stale := 4096 }
    (t.ref = none → countCrossing r point t = (counted, .quiet)) ∧
    ∀ ref, t.ref = some ref →
      let interval := (point.turn * 16777216 + point.ticks) - (ref.turn * 16777216 + ref.ticks)
      let longer := t.history ++ [interval]
      let valid := { counted with history := longer.drop (longer.length - 8) }
      (256 ≤ interval → interval ≤ 65535 →
        (t.lock = .search → countCrossing r point t = searchCrossing r valid) ∧
        (t.lock = .locked → (t.k = none ∨ t.period = none ∨ ∃ k, t.k = some k ∧ valid.history.length < k.num) →
          countCrossing r point t = (valid, .quiet)) ∧
        ∀ k period, t.lock = .locked → t.k = some k → t.period = some period → k.num ≤ valid.history.length →
          countCrossing r point t =
            measure r period (256 * (valid.history.drop (valid.history.length - k.num)).sum) valid) ∧
      (interval < 256 ∨ 65535 < interval →
        (t.lock = .search →
          countCrossing r point t = ({ counted with history := [], candidates := .revived }, .quiet)) ∧
        (t.lock = .locked → t.misses ≤ 1 →
          countCrossing r point t = ({ counted with history := [], jump := none, misses := t.misses + 1 }, .quiet)) ∧
        (t.lock = .locked → 2 ≤ t.misses →
          countCrossing r point t = ({ counted with history := [], jump := none, misses := 3 }, .lossDue)))

/-- The work of SEARCH at a crossing that appended a valid interval (R49, R50, R51, R53): an alive candidate with 2k intervals
passes exactly when its two sums agree within the tolerance, with a pass more and the newest sum as its last; one with fewer is
left as it is. No lock is decided unless the smallest alive candidate has `confirm` passes, and then with that candidate and 256
times its newest sum; without a lock the last sum of the smallest alive candidate with a pass is reported, if there is one; with no
survivor the newest interval is kept alone and the candidates are revived. -/
def Obligations.SmallestSurvivorLocks : Prop :=
  ∀ (r : StringRecord) (t : Tracker),
    let c := testCandidates r.tolerance t.history t.candidates
    let newest := fun k : CandidateNo => (t.history.drop (t.history.length - k.num)).sum
    let before := fun k : CandidateNo => ((t.history.drop (t.history.length - 2 * k.num)).take k.num).sum
    (∀ k : CandidateNo,
      let old := t.candidates.get k
      let close := ((newest k : Int) - before k).natAbs * 256 ≤ before k * r.tolerance
      (old.alive = false ∨ t.history.length < 2 * k.num → c.get k = old) ∧
      (old.alive = true → 2 * k.num ≤ t.history.length → close →
        c.get k = ⟨true, min 255 (old.passes + 1), some (newest k)⟩) ∧
      (old.alive = true → 2 * k.num ≤ t.history.length → ¬ close → (c.get k).alive = false)) ∧
    ((∀ k : CandidateNo, (c.get k).alive = false) →
      searchCrossing r t = ({ t with history := t.history.getLast?.toList, candidates := .revived }, .quiet)) ∧
    (∀ k : CandidateNo, (c.get k).alive = true → (∀ j : CandidateNo, j.num < k.num → (c.get j).alive = false) →
      (r.confirm ≤ (c.get k).passes →
        searchCrossing r t = ({ t with candidates := c, decided := true }, .lockDue k (256 * newest k))) ∧
      ((c.get k).passes < r.confirm →
        ((∀ j : CandidateNo, (c.get j).alive = true → (c.get j).passes = 0) →
          searchCrossing r t = ({ t with candidates := c }, .quiet)) ∧
        ∀ (j : CandidateNo) (sum : Nat), (c.get j).alive = true → 1 ≤ (c.get j).passes → (c.get j).lastSum = some sum →
          (∀ i : CandidateNo, i.num < j.num → (c.get i).alive = true → (c.get i).passes = 0) →
          searchCrossing r t = ({ t with candidates := c }, .report (.searchPass sum))))

/-- A measurement in LOCKED (R60 to R64): within tolerance of T it is a hit, which moves T toward the measurement without
passing it and clears J and the misses; else, agreeing with J, it is a jump, which sets T to it; else a plain miss, which sets J
and counts; the third makes the lock loss due and leaves T. The report of a hit or a jump (R76, R96, R97) is discarded while the
pitch is NONE; at a STRUCK context it sets Q and N_raw, and the held note becomes N_raw at a jump, and at a hit in a STEP zone
whose Q lies outside the band, where N_raw differs; an announced note then offers a SHIFT, and the GLIDE decision follows. That a
provisional flag stays is the model's (log 19, DEDUCED). -/
def Obligations.HitsJumpsAndMisses : Prop :=
  (∀ (r : StringRecord) (period measured : Nat) (t : Tracker),
    let near := fun b : Nat => ((measured : Int) - b).natAbs * 256 ≤ b * r.tolerance
    (near period → ∃ new, measure r period measured t =
        ({ t with period := some new, misses := 0, jump := none }, .report (.hit new)) ∧
      (new : Int) = period + ((measured : Int) - period).sign *
        ⌊(((measured : Int) - period).natAbs : ℚ) / 2 ^ r.loopShift + 1 / 2⌋ ∧
      min period measured ≤ new ∧ new ≤ max period measured) ∧
    (∀ j, ¬ near period → t.jump = some j → near j →
      measure r period measured t =
        ({ t with period := some measured, misses := 0, jump := none }, .report (.jump measured))) ∧
    (¬ near period → (∀ j, t.jump = some j → ¬ near j) → t.misses ≤ 1 →
      measure r period measured t = ({ t with jump := some measured, misses := t.misses + 1 }, .quiet)) ∧
    (¬ near period → (∀ j, t.jump = some j → ¬ near j) → 2 ≤ t.misses →
      measure r period measured t = ({ t with jump := some measured, misses := 3 }, .lossDue))) ∧
  ∀ (tb : Tables) (n : StringNo) (period : Nat) (stamp : Index) (report : Report) (u : StringUnit),
    u.due.report = some (report, stamp) → report = .hit period ∨ report = .jump period →
    let r := tb.strings.get n
    let q := pitchOf tb.device period
    let raw := rawNote q
    let v := { u with due := { u.due with report := none } }
    let w := { v with pitch := .tracking q raw }
    (u.pitch = .none ∨ u.context = .empty ∨ (∃ deadline, u.context = .pending deadline) → takeReport tb n u = v) ∧
    ∀ note, u.pitch ≠ .none → u.context = .struck note →
      let band := note.zone.any fun z => z.mode == .step
      let outside := 64 * (note.held : Int) + 32 + r.noteHysteresis < q ∨ (q : Int) < 64 * note.held - 32 - r.noteHysteresis
      let moves := raw ≠ note.held ∧ (report = .jump period ∨ (band = true ∧ outside))
      (¬ moves → takeReport tb n u = glideDecision r stamp w) ∧
      (moves → note.zone = none → takeReport tb n u = { w with context := .struck { note with held := raw } }) ∧
      ∀ z, moves → note.zone = some z →
        let x := { w with context := .struck { note with held := raw, output := some (fold (raw + z.transpose)) } }
        (note.announced = false → takeReport tb n u = x) ∧
        (note.announced = true → takeReport tb n u =
          glideDecision r stamp (offerShift r.outputMode z.channel (fold (raw + z.transpose)) stamp false x))

/-- The zone search gives the first record of the chain from the zone head, within 32 visits, whose range holds N_raw, and
nothing when none of them does (R85). -/
def Obligations.ZoneSearchFindsFirstMatch : Prop :=
  ∀ (zones : Vector ZoneRecord 32) (head : Option (Fin 32)) (raw : Nat),
    let visited := fun k : Nat => (fun link : Option (Fin 32) => link.bind fun i => (zones.get i).next)^[k] head
    let hits := fun z : ZoneRecord => z.low ≤ raw ∧ raw ≤ z.high
    (∀ z, zoneSearch zones head raw = some z ↔ ∃ k < 32, ∃ i, visited k = some i ∧ zones.get i = z ∧ hits z ∧
      ∀ j < k, ∀ i', visited j = some i' → ¬ hits (zones.get i')) ∧
    (zoneSearch zones head raw = none ↔ ∀ k < 32, ∀ i, visited k = some i → ¬ hits (zones.get i))

/-- The fold brings a note number into 0…127 by whole octaves, from the nearer end (R87). The velocity is the curve at
`x = (P − A) × 15 / (S − A)`, interpolated exactly and rounded to the nearest integer: c[0] from A down, c[15] from S up
(R88). -/
def Obligations.FoldAndVelocity : Prop :=
  (∀ v : Int, fold v ≤ 127 ∧ (12 : Int) ∣ v - fold v ∧ (0 ≤ v → v ≤ 127 → (fold v : Int) = v) ∧ (v < 0 → fold v ≤ 11) ∧
    (127 < v → 116 ≤ fold v)) ∧
  ∀ (attach span peak : Nat) (curve : Curve), attach < span →
    (peak ≤ attach → velocity attach span peak curve = curve[0]) ∧
    (span ≤ peak → velocity attach span peak curve = curve[15]) ∧
    (attach ≤ peak → peak < span →
      ∀ (i : Nat) (h : i < 15), let x : ℚ := ((peak - attach) * 15 / (span - attach) : ℚ)
        (i : ℚ) ≤ x → x < i + 1 →
        (velocity attach span peak curve : Int) =
          ⌊(curve[i] : ℚ) + ((curve[i + 1] : ℚ) - (curve[i] : ℚ)) * (x - i) + 1 / 2⌋)

/-- GLIDE and PRESS (R98, R99, R100): of an announced note with a zone whose pitch is TRACKING, a GLIDE is offered exactly when
its timer is 0 and the clamped value has moved by the glide step, a PRESS exactly when the interval is not 0, its timer is 0 and
the level has moved by 2; an offer loads the timer, is remembered, and replaces what the slot held, unless the slot takes no offer. -/
def Obligations.ContinuousValuesDue : Prop :=
  ∀ (r : StringRecord) (stamp : Index) (note : Struck) (z : ZoneCopy) (q raw : Nat) (u : StringUnit),
    u.context = .struck note → note.zone = some z →
    (u.pitch = .tracking q raw →
      let exact : Int := q - 64 * note.held
      let value := max (-(64 * z.bendRange : Int)) (min (64 * z.bendRange) exact)
      let due := note.announced = true ∧ note.glideTimer = 0 ∧ r.glideStep ≤ (value - note.lastGlide).natAbs
      let offered := { u with context := .struck { note with lastGlide := value, glideTimer := r.glideInterval } }
      (due → u.accepts r.outputMode = true → glideDecision r stamp u =
        { offered with glide := some ⟨z.channel, value, stamp, decide (value ≠ exact)⟩ }) ∧
      (due → u.accepts r.outputMode = false → glideDecision r stamp u = offered) ∧
      (¬ due → glideDecision r stamp u = u)) ∧
    (u.pitch = .tracking q raw → ∀ level : Nat,
      let due := note.announced = true ∧ r.pressInterval ≠ 0 ∧ note.pressTimer = 0 ∧
        2 ≤ ((level : Int) - note.lastPress).natAbs
      let offered := { u with context := .struck { note with lastPress := level, pressTimer := r.pressInterval } }
      (due → u.accepts r.outputMode = true → pressDecision r level stamp u =
        { offered with press := some ⟨z.channel, level, stamp⟩ }) ∧
      (due → u.accepts r.outputMode = false → pressDecision r level stamp u = offered) ∧
      (¬ due → pressDecision r level stamp u = u)) ∧
    (u.pitch = .held q raw → glideDecision r stamp u = u ∧ ∀ level, pressDecision r level stamp u = u)

/-! ### The queues -/

/-- Admission to a string queue (R108, R109): a STRIKE at 0…6 records, else counted as lost; a SHIFT at 0…6, at 7 merged into a
STRIKE or SHIFT at the tail and counted as merged, else dropped and counted as lost; a LIFT at 0…7, emptying both slots (R112),
and refused at 8; nothing in MUTED (R113), nor while a reset has flushed the queue and the note engine has not taken it (R127). -/
def Obligations.QueueAdmission : Prop :=
  ∀ (mode : OutputMode) (record : NoteRecord) (channel note : Nat) (stamp : Index) (correction : Bool) (cause : LiftCause)
    (u : StringUnit),
    let lost := { u with counters := { u.counters with lost := min 65535 (u.counters.lost + 1) } }
    let merged := fun queue : List NoteRecord =>
      { u with queue := queue, counters := { u.counters with merged := min 65535 (u.counters.merged + 1) } }
    (u.accepts mode = true ↔ mode ≠ .muted ∧ u.refusing = false) ∧
    (u.accepts mode = false → offerStrike mode record u = (u, false) ∧ offerShift mode channel note stamp correction u = u ∧
      offerLift mode stamp cause u = u) ∧
    (u.accepts mode = true →
      (u.queue.length ≤ 6 → offerStrike mode record u = ({ u with queue := u.queue ++ [record] }, true) ∧
        offerShift mode channel note stamp correction u =
          { u with queue := u.queue ++ [NoteRecord.shift channel note stamp correction false] }) ∧
      (7 ≤ u.queue.length → offerStrike mode record u = (lost, false)) ∧
      (∀ (front : List NoteRecord) c n v st p m, u.queue = front ++ [NoteRecord.strike c n v st p m] → front.length = 6 →
        offerShift mode channel note stamp correction u = merged (front ++ [NoteRecord.strike c note v st p true])) ∧
      (∀ (front : List NoteRecord) c n st corr m, u.queue = front ++ [NoteRecord.shift c n st corr m] → front.length = 6 →
        offerShift mode channel note stamp correction u = merged (front ++ [NoteRecord.shift c note st (corr || correction) true])) ∧
      (∀ (front : List NoteRecord) st ca, u.queue = front ++ [NoteRecord.lift st ca] → front.length = 6 →
        offerShift mode channel note stamp correction u = lost) ∧
      (8 ≤ u.queue.length → offerShift mode channel note stamp correction u = lost) ∧
      (u.queue.length ≤ 7 → offerLift mode stamp cause u =
        { u with queue := u.queue ++ [NoteRecord.lift stamp cause], glide := none, press := none }) ∧
      (8 ≤ u.queue.length → offerLift mode stamp cause u = u))

/-- A notice whose kind is enabled joins a queue of 7 or less, and is dropped and counted as lost at 8; a masked one does
nothing (R117). -/
def Obligations.NoticeQueueAdmission : Prop :=
  ∀ (s : State) (notice : Notice),
    let d := s.tables.device
    let enabled := match notice with
      | .fault _ _ => d.faultNotices
      | .recover _ => d.recoverNotices
      | .slip _ _ => d.slipNotices
      | .link _ => d.linkNotices
    (enabled = false → s.offerNotice notice = s) ∧
    (enabled = true → s.tx.notices.length ≤ 7 →
      s.offerNotice notice = { s with tx := { s.tx with notices := s.tx.notices ++ [notice] } }) ∧
    (enabled = true → 8 ≤ s.tx.notices.length →
      s.offerNotice notice = { s with link := { s.link with noticesLost := min 65535 (s.link.noticesLost + 1) } })

/-! ### The elastic store -/

/-- Writes and reads of the elastic store (R150 to R153): HALTED discards a record; PREFILL takes it and is FLOWING at a fill of
16, and a read gives zero samples, the held index and the flag; FLOWING takes it, at a fill of 30 after a DROP slip of 15 frames,
and a read takes the record at the read position, at a fill of 2 or less after a REPEAT slip back to a fill of 16. -/
def Obligations.StoreWritesReadsAndSlips : Prop :=
  ∀ (record : FrameRecord) (st : Store),
    let written := { st with slots := st.slots.set st.write.val record, write := Fin.ofNat 32 (st.write.val + 1),
                             fill := st.fill + 1 }
    let taken := fun (position : Fin 32) (left : Nat) =>
      { st with read := Fin.ofNat 32 (position.val + 1), fill := left, held := (st.slots.get position).index }
    (st.state = .halted → st.accept record = (st, none)) ∧
    (st.state = .prefill → st.accept record = ({ written with state := if st.fill = 15 then .flowing else .prefill }, none) ∧
      st.readOut = ⟨st, ⟨⟨0, 0, 0, 0, 0, 0⟩, st.held⟩, true, none⟩) ∧
    (st.state = .flowing →
      (st.fill ≤ 29 → st.accept record = (written, none)) ∧
      (st.fill = 30 → st.accept record = ({ written with read := Fin.ofNat 32 (st.read.val + 15), fill := 16 }, some 15)) ∧
      (3 ≤ st.fill → st.readOut = ⟨taken st.read (st.fill - 1), st.slots.get st.read, false, none⟩) ∧
      (st.fill ≤ 2 → ∀ back : Fin 32, (back.val + (16 - st.fill)) % 32 = st.read.val →
        st.readOut = ⟨taken back 15, st.slots.get back, false, some (16 - st.fill)⟩))

/-- The index of consecutive synth frames while the store is FLOWING (R158): it runs on by one, and goes back by 13 across a
REPEAT slip. -/
def Obligations.ConsecutiveSynthIndices : Prop :=
  ∀ (order order' : SynthOrder) (s : State), StoreClocked s → StoreConsecutive s → s.store.state = .flowing →
    ∃ t t' f f', exec (.synthForwardFrame order) s = .next t ∧ exec (.synthForwardFrame order') t = .next t' ∧
      t.synthOut = some f ∧ t'.synthOut = some f' ∧
      frameField f' 160 16 = frameField f 160 16 + if s.store.fill = 3 then 0xFFF3#16 else 1#16

/-! ### Pickup frames -/

/-- A frame time has good sync exactly when its line carries edges and its first 16 frame bits are the sync pattern (R162, R190;
the word's order is log 11's). In HUNT a frame time is judged and its frame discarded (R162): only the good-sync run, the sent
frame and the count of free values change, and at the second good frame the receiver enters SYNC with a LINK notice (R163), unless
the order leaves the entry to its own step (log 1). -/
def Obligations.HuntDiscardsFrames : Prop :=
  (∀ bits : FrameBits, frameGood (some bits) = true ↔ bits.extractLsb' 240 16 = 0xC6B3#16) ∧ frameGood none = false ∧
  ∀ (frame : Option FrameBits) (order : FrameOrder) (s : State), s.pickup.receiver.state = .hunt →
    s.pickup.receiver.good ≤ 1 → s.inProcess = none → s.NothingDue →
    let run := if frameGood frame then s.pickup.receiver.good + 1 else 0
    let judged := { s with pickup := { s.pickup with receiver := { s.pickup.receiver with good := run } },
                           pickupOut := none, drawn := s.drawn + if frame = none then 1 else 0 }
    (run ≤ 1 ∨ order.hold = true → exec (.pickupForwardFrame frame order) s = .next judged) ∧
    (run = 2 → order.hold = false → exec (.pickupForwardFrame frame order) s = .next (State.offerNotice
      { judged with pickup := { judged.pickup with receiver := ⟨.sync, 0, s.pickup.receiver.bad⟩ } } (.link .pickupUp)))

/-- In SYNC a frame with good sync, or with the first or second bad sync in a row, is accepted (R1, R162; HuntDiscardsFrames says
what good sync is): the index goes up by one, the return frame carries the next relay-up byte or the IDLE tag (R167), and the
tables, the synth link, the answers and the transmitter's message stay. Its side byte opens, extends, aborts or overruns the open
message, and a LAST byte completes it for relay-down (R168, R169, R170, R173); the bits of a frame time without edges are a free
value (log 4). A frame with the third bad sync in a row is discarded, makes no return frame, and its entry to HUNT is taken,
unless the order leaves the entry to its own step (log 1, DESIGN CHOICE). A report on its way to the note engine of a string for
which the order puts that entry first finds a note ended by it, and is discarded (R69, R103; the order is an operand of the model,
log 3). -/
def Obligations.SyncAcceptsFrames : Prop :=
  (∀ (frame : Option FrameBits) (order : FrameOrder) (s : State), s.pickup.receiver.state = .sync →
    s.pickup.receiver.bad ≤ 2 → (frameGood frame = true ∨ s.pickup.receiver.bad ≤ 1) → s.inProcess = none →
    let bits := match frame with | some bits => bits | none => Config.silentFrame s.drawn
    let tag := pickupTag bits
    let b := pickupSide bits
    ∃ t, exec (.pickupForwardFrame frame order) s = .next t ∧ t.index = s.index + 1 ∧
      t.pickup.receiver = { s.pickup.receiver with bad := if frameGood frame then 0 else s.pickup.receiver.bad + 1 } ∧
      t.tables = s.tables ∧ t.synth = s.synth ∧ t.answers = s.answers ∧ t.tx.state = s.tx.state ∧
      t.tx.queuePointer = s.tx.queuePointer ∧ t.tx.slotPointer = s.tx.slotPointer ∧ t.synthOut = s.synthOut ∧
      t.pending = s.pending ∧ (∀ n, (t.unit n).group = (s.unit n).group) ∧
      (s.pickup.ret = .ready → s.relayUp = [] → t.pickup.ret = .ready ∧ t.relayUp = [] ∧
        t.pickupOut = some (pickupReturnFrame .idle 0)) ∧
      (∀ m rest, s.pickup.ret = .ready → s.relayUp = m :: rest → 2 ≤ m.length → t.pickup.ret = .sending m 1 ∧
        t.relayUp = rest ∧ t.pickupOut = some (pickupReturnFrame .first (m.getD 0 0))) ∧
      (∀ m i, s.pickup.ret = .sending m i → 2 ≤ m.length → i < m.length → t.relayUp = s.relayUp ∧
        t.pickupOut = some (pickupReturnFrame (if i = 0 then .first else if i + 1 = m.length then .last else .mid) (m.getD i 0)) ∧
        t.pickup.ret = if i + 1 = m.length then .ready else .sending m (i + 1)) ∧
      let leaves := fun (side : SideReceiver) (link : LinkCounters) (down : List (List Byte)) =>
        t.pickup.side = side ∧ t.relayDown = down ∧
          { t.link with noticesLost := 0, dropSlips := 0 } = { link with noticesLost := 0, dropSlips := 0 }
      (s.pickup.side = none → leaves (if tag = .first then some [b] else none) s.link s.relayDown) ∧
      ∀ buffer, s.pickup.side = some buffer →
        let aborted := { s.link with aborts := min 65535 (s.link.aborts + 1) }
        (tag = .first → leaves (some [b]) aborted s.relayDown) ∧ (tag = .idle → leaves none aborted s.relayDown) ∧
        (tag = .mid → buffer.length ≤ 63 → leaves (some (buffer ++ [b])) s.link s.relayDown) ∧
        (tag = .mid ∨ tag = .last → 64 ≤ buffer.length →
          leaves none { s.link with long := min 65535 (s.link.long + 1) } s.relayDown) ∧
        (tag = .last → buffer.length ≤ 2 → leaves none { s.link with short := min 65535 (s.link.short + 1) } s.relayDown) ∧
        (tag = .last → 3 ≤ buffer.length → buffer.length ≤ 63 →
          (crcGood (buffer ++ [b]) = false →
            leaves none { s.link with badCrc := min 65535 (s.link.badCrc + 1) } s.relayDown) ∧
          (crcGood (buffer ++ [b]) = true → s.relayDown.length ≤ 1 →
            leaves none s.link (s.relayDown ++ [buffer ++ [b]])) ∧
          (crcGood (buffer ++ [b]) = true → 2 ≤ s.relayDown.length →
            leaves none { s.link with relayDrops := min 65535 (s.link.relayDrops + 1) } s.relayDown))) ∧
  ∀ (frame : Option FrameBits) (order : FrameOrder) (s : State), s.pickup.receiver.state = .sync →
    s.pickup.receiver.bad = 2 → frameGood frame = false → s.inProcess = none →
    let judged := { s with pickup := { s.pickup with receiver := { s.pickup.receiver with bad := 3 } }, pickupOut := none,
                           drawn := s.drawn + if frame = none then 1 else 0 }
    (s.NothingDue → order.hold = true → exec (.pickupForwardFrame frame order) s = .next judged) ∧
    (s.NothingDue → order.hold = false → exec (.pickupForwardFrame frame order) s = exec .pickupHuntEntry judged) ∧
    ∀ n report, order.hold = false → order.entryFirst.get n = true → (s.unit n).state = .attack ∨ (s.unit n).state = .sounding →
      (s.unit n).due = { Due.none with report := some report } → (∀ m, m ≠ n → (s.unit m).due = .none) →
      exec (.pickupForwardFrame frame order) s =
        exec (.pickupForwardFrame frame order) (s.setUnit n { s.unit n with due := .none })

/-- The work of an accepted frame in the canonical order (R4 to R11, R16, R21, R132, R134, R136 to R138, R150; the order, and
what an envelope unit does in one act, are the model's, logs 3 and 30 to 32): the record goes to the store. A string outside OFF
and the fault states has its envelope's work and its tracker's work, each followed by the events it made due, then its fault
runs updated, and it enters a fault where a condition is present; a quiet IDLE string has its level and its runs updated and
nothing else, while one whose level reaches A is in ATTACK. An OFF string is left alone; a latched one has its runs updated; in
FAULT_WAIT and FAULT_TEST the timers count, and their ends are taken. A DROP slip is counted (R154). Its notice, then a FAULT
notice of each string that enters a fault and a RECOVER notice of each that recovers, in string order, are offered to the notice
queue. -/
def Obligations.CanonicalFrameWork : Prop :=
  ∀ (bits : FrameBits) (s : State), s.pickup.receiver.state = .sync → s.pickup.receiver.bad ≤ 2 → goodSync bits = true →
    s.inProcess = none → s.NothingDue →
    let raw := Six.ofFn (frameSample bits)
    let y := cancel s.tables.matrix s.states raw
    let sent : Six Int := Six.ofFn fun n =>
      if (s.unit n).state.faulted then 0
      else match (s.record n).sampleMode with
        | .raw => raw.get n
        | .cancelled => y.get n
        | .zero => 0
    let slip := (s.store.accept ⟨sent, s.index + 1⟩).2
    let noticed := fun n : StringNo =>
      let state := (s.unit n).state
      let condition := conditionPresent (s.record n) (updateRuns (s.record n) (raw.get n) (frameFlag bits n) (s.unit n).monitor)
      if state = .idle ∨ state = .attack ∨ state = .sounding ∨ state = .damped then condition.map (Notice.fault n)
      else if state = .faultTest ∧ condition = none ∧ (s.unit n).monitor.test ≤ 1 then some (.recover n)
      else none
    let offered := ((slip.map (Notice.slip .drop)).toList ++ StringNo.all.filterMap noticed).foldl State.offerNotice s
    ∃ t, exec (.pickupForwardFrame (some bits) {}) s = .next t ∧ t.inProcess = none ∧ t.NothingDue ∧
      t.store = (s.store.accept ⟨sent, s.index + 1⟩).1 ∧
      t.link.dropSlips = (if slip = none then s.link.dropSlips else min 65535 (s.link.dropSlips + 1)) ∧
      t.tx.notices = offered.tx.notices ∧ t.link.noticesLost = offered.link.noticesLost ∧
      (∀ n, (s.unit n).state = .idle → (s.unit n).tracker.run = .stopped →
        let u := s.unit n
        let r := s.record n
        let level := max (min (y.get n).natAbs 8388607) (u.env.level - u.env.level / 2 ^ r.decayShift)
        let m := updateRuns r (raw.get n) (frameFlag bits n) u.monitor
        conditionPresent r m = none →
          (level < r.attach → t.unit n = { u with env := { u.env with level := level }, monitor := m }) ∧
          (r.attach ≤ level → (t.unit n).state = .attack ∧ (t.unit n).env = ⟨level, level, level, r.reattackGuard, 0⟩ ∧
            (t.unit n).pitch = .none ∧ (t.unit n).tracker.run = .running ∧ (t.unit n).tracker.samples = 1 ∧
            (t.unit n).monitor = m ∧ (t.unit n).queue = u.queue ∧
            (t.unit n).context = .pending (if r.strikeDeadline = 0 then .stopped else .running r.strikeDeadline))) ∧
      ∀ n, let u := s.unit n
        let r := s.record n
        let index := s.index + 1
        let m := updateRuns r (raw.get n) (frameFlag bits n) u.monitor
        (u.state = .idle ∨ u.state = .attack ∨ u.state = .sounding ∨ u.state = .damped →
          let v := (envelopeSample r (y.get n) index u).settleOwn s.tables n
          let w := { (trackerSample s.tables n (y.get n) index v).settleOwn s.tables n with monitor := m }
          (conditionPresent r m = none → t.unit n = w) ∧
          ∀ cause, conditionPresent r m = some cause → t.unit n = enterFault r cause index w) ∧
        (u.tracker.run = .stopped →
          (u.state = .off → t.unit n = u) ∧ (u.state = .faultLatched → t.unit n = { u with monitor := m }) ∧
          (u.state = .faultWait → 2 ≤ u.monitor.wait →
            t.unit n = { u with monitor := { m with wait := u.monitor.wait - 1 } }) ∧
          (u.state = .faultWait → u.monitor.wait ≤ 1 → t.unit n =
            { u with state := .faultTest, monitor := { m with wait := 0, test := 256 * r.faultTest } }) ∧
          (u.state = .faultTest → conditionPresent r m = none → 2 ≤ u.monitor.test →
            t.unit n = { u with monitor := { m with test := u.monitor.test - 1 } }) ∧
          (u.state = .faultTest → conditionPresent r m = none → u.monitor.test ≤ 1 → t.unit n =
            { u with state := .idle, env := ⟨0, 0, 0, 0, 0⟩, damp := 0, tracker := .fresh .stopped,
                     monitor := { m with cause := none, wait := 0, test := 0 } }) ∧
          ∀ cause, u.state = .faultTest → conditionPresent r m = some cause → t.unit n =
            { u with state := .faultWait,
                     monitor := { m with wait := 1024 * r.faultWait, test := 0, cause := some cause,
                                         retries := min 255 (u.monitor.retries + 1) },
                     counters := { u.counters with retries := min 65535 (u.counters.retries + 1) } })

/-- PICKUP_HUNT_ENTRY (R163): the receiver in HUNT with the open message dropped and the message to the converter set back to
its first byte, the store flushed to PREFILL or left HALTED (R156), the pickup sync losses up by one, a LINK notice offered, and
every string that sounds or is IDLE sent to IDLE, an announced note with a LINK LIFT (R34); a string in OFF or a fault state
keeps its state and loses its runs (R145). -/
def Obligations.PickupHuntEntry : Prop :=
  ∀ s : State, s.pickup.receiver.state = .sync → 3 ≤ s.pickup.receiver.bad →
    ∃ units, exec .pickupHuntEntry s = .next (State.offerNotice
        { s with units := units,
                 store := { s.store with state := if s.store.state = .halted then .halted else .prefill, fill := 0,
                                         read := s.store.write },
                 pickup := ⟨⟨.hunt, s.pickup.receiver.good, 0⟩, none,
                   match s.pickup.ret with | .ready => .ready | .sending m _ => .sending m 0⟩,
                 link := { s.link with pickupSyncLosses := min 65535 (s.link.pickupSyncLosses + 1) } }
        (.link .pickupDown)) ∧
      ∀ n, let u := s.unit n
        let v := { u with monitor := { u.monitor with clipRun := 0, stuckRun := 0, flagSeen := false, last := none } }
        let w := { v with state := .idle, env := ⟨0, 0, 0, 0, 0⟩, damp := 0, tracker := .fresh .stopped }
        let cleared := { w with context := .empty, pitch := .none, due := { u.due with expiry := none } }
        (u.state = .off ∨ u.state.faulted = true → units.get n = v) ∧
        (u.state = .idle ∨ u.state = .damped → units.get n = w) ∧
        (u.state = .attack → units.get n = cleared) ∧
        ∀ note, u.state = .sounding → u.context = .struck note →
          (note.announced = false ∨ u.accepts (s.record n).outputMode = false ∨ 8 ≤ u.queue.length →
            units.get n = cleared) ∧
          (note.announced = true → u.accepts (s.record n).outputMode = true → u.queue.length ≤ 7 →
            units.get n = { cleared with queue := u.queue ++ [.lift s.index .link], glide := none, press := none })

/-- PICKUP_SYNC_ENTRY (R163), SYNTH_RECEIVER_HUNT_ENTRY and SYNTH_RECEIVER_SYNC_ENTRY (R165): the run at its limit moves the
receiver and puts the run back to 0; the pickup receiver's entry to SYNC offers a LINK notice; the synth receiver's entry to HUNT
is counted and drops the open message, its entry to SYNC does nothing more. -/
def Obligations.ReceiverEntries : Prop :=
  ∀ s : State,
    (s.pickup.receiver.state = .hunt → 2 ≤ s.pickup.receiver.good →
      exec .pickupSyncEntry s = .next (State.offerNotice
        { s with pickup := { s.pickup with receiver := ⟨.sync, 0, s.pickup.receiver.bad⟩ } } (.link .pickupUp))) ∧
    (s.synth.receiver.state = .sync → 3 ≤ s.synth.receiver.bad →
      exec .synthReceiverHuntEntry s = .next
        { s with synth := { s.synth with receiver := ⟨.hunt, s.synth.receiver.good, 0⟩, side := none },
                 link := { s.link with synthSyncLosses := min 65535 (s.link.synthSyncLosses + 1) } }) ∧
    (s.synth.receiver.state = .hunt → 2 ≤ s.synth.receiver.good →
      exec .synthReceiverSyncEntry s = .next
        { s with synth := { s.synth with receiver := ⟨.sync, 0, s.synth.receiver.bad⟩ } }) ∧
    (s.pickup.receiver.state = .sync ∨ s.pickup.receiver.good ≤ 1 → exec .pickupSyncEntry s = .next s) ∧
    (s.pickup.receiver.state = .hunt ∨ s.pickup.receiver.bad ≤ 2 → exec .pickupHuntEntry s = .next s) ∧
    (s.synth.receiver.state = .hunt ∨ s.synth.receiver.bad ≤ 2 → exec .synthReceiverHuntEntry s = .next s) ∧
    (s.synth.receiver.state = .sync ∨ s.synth.receiver.good ≤ 1 → exec .synthReceiverSyncEntry s = .next s)

/-! ### Messages -/

/-- CONVERTER_MESSAGE (R173): a message of 4 to 64 bytes with a good CRC joins a relay-down buffer of 0 or 1, and is dropped and
counted at 2; a long, a short and a bad message are discarded and counted. Nothing else changes, and nothing arrives in HUNT (log 8,
DEDUCED). That this command makes the checks, which R170 gives to a receiver, and that it takes 65 bytes or more, which no receiver
completes (R169), is the model's (log 22, DESIGN CHOICE). -/
def Obligations.ConverterMessageRelayed : Prop :=
  ∀ (m : List Byte) (s : State),
    (s.pickup.receiver.state = .hunt → exec (.converterMessage m) s = .next s) ∧
    (s.pickup.receiver.state = .sync →
      (65 ≤ m.length → exec (.converterMessage m) s = .next { s with link := { s.link with long := min 65535 (s.link.long + 1) } }) ∧
      (m.length ≤ 3 → exec (.converterMessage m) s = .next { s with link := { s.link with short := min 65535 (s.link.short + 1) } }) ∧
      (4 ≤ m.length → m.length ≤ 64 →
        (crcGood m = false →
          exec (.converterMessage m) s = .next { s with link := { s.link with badCrc := min 65535 (s.link.badCrc + 1) } }) ∧
        (crcGood m = true → s.relayDown.length ≤ 1 →
          exec (.converterMessage m) s = .next { s with relayDown := s.relayDown ++ [m] }) ∧
        (crcGood m = true → 2 ≤ s.relayDown.length →
          exec (.converterMessage m) s = .next
            { s with link := { s.link with relayDrops := min 65535 (s.link.relayDrops + 1) } })))

/-- RELAY_UP_MESSAGE of 4 to 64 bytes (R172, R173): a good message to address 0 or to another device's address up to $7E joins a
relay-up buffer of 0 or 1, and is dropped and counted at 2; one to the part's own address does not reach the relay; one to any
other address is discarded and counted. That this command checks the CRC, and discards and counts a bad message, which R170 gives to
the receiver before the relay, is the model's (log 22, DESIGN CHOICE), and so is that it is taken in the synth receiver's HUNT as in
SYNC (log 8, DESIGN CHOICE). -/
def Obligations.RelayUpMessageRouted : Prop :=
  ∀ (a : Byte) (m : List Byte) (s : State), s.synth.clock = .present → s.tables.device.Sound →
    4 ≤ (a :: m).length → (a :: m).length ≤ 64 →
    (crcGood (a :: m) = false → exec (.relayUpMessage (a :: m)) s = .next
      { s with link := { s.link with badCrc := min 65535 (s.link.badCrc + 1) } }) ∧
    (crcGood (a :: m) = true → a.toNat ≤ 0x7E → a.toNat ≠ s.tables.device.address →
      (s.relayUp.length ≤ 1 → exec (.relayUpMessage (a :: m)) s = .next { s with relayUp := s.relayUp ++ [a :: m] }) ∧
      (2 ≤ s.relayUp.length → exec (.relayUpMessage (a :: m)) s = .next
        { s with link := { s.link with relayDrops := min 65535 (s.link.relayDrops + 1) } })) ∧
    (crcGood (a :: m) = true → a.toNat = s.tables.device.address → exec (.relayUpMessage (a :: m)) s = .next s) ∧
    (crcGood (a :: m) = true → 0x7F ≤ a.toNat → exec (.relayUpMessage (a :: m)) s = .next
      { s with link := { s.link with badAddress := min 65535 (s.link.badAddress + 1) } })

/-- SYNTH_RETURN_FRAME (R164, R165, R168 to R170, R172, R173): nothing is taken while the clock is ABSENT; in HUNT the good-sync run
changes, and the second good frame enters SYNC; in SYNC the third bad frame in a row enters HUNT. An order with `hold` leaves
these entries to their own steps (log 1, DESIGN CHOICE). A taken frame's side byte opens, extends, aborts or overruns the open
message, and a LAST byte completes it: a short message and one with a bad CRC are discarded and counted; a good one goes by its
address byte to the management unit, to relay-up, to both in the order the operand names, or is discarded and counted. The
management unit takes a request as the command of its kind does. -/
def Obligations.SynthReturnFrameTaken : Prop :=
  (∀ (bits : FrameBits) (order : ReturnOrder) (s : State),
    let r := s.synth.receiver
    let good := goodSync bits
    let tag := returnTag bits
    let b := returnSide bits
    let received := fun receiver : Receiver => { s with synth := { s.synth with receiver := receiver } }
    let taken := fun side : SideReceiver =>
      { s with synth := { s.synth with receiver := { r with bad := if good then 0 else r.bad + 1 }, side := side } }
    let relayed := fun (m : List Byte) (t : State) =>
      if t.relayUp.length ≤ 1 then { t with relayUp := t.relayUp ++ [m] }
      else { t with link := { t.link with relayDrops := min 65535 (t.link.relayDrops + 1) } }
    (s.synth.clock = .absent → exec (.synthReturnFrame bits order) s = .next s) ∧
    (s.synth.clock = .present → r.state = .hunt → r.good ≤ 1 → (good = false ∨ r.good = 0 ∨ order.hold = true) →
      exec (.synthReturnFrame bits order) s = .next (received { r with good := if good then r.good + 1 else 0 })) ∧
    (s.synth.clock = .present → r.state = .hunt → r.good = 1 → good = true → order.hold = false →
      exec (.synthReturnFrame bits order) s = .next (received ⟨.sync, 0, r.bad⟩)) ∧
    (s.synth.clock = .present → r.state = .sync → r.bad = 2 → good = false →
      (order.hold = true → exec (.synthReturnFrame bits order) s = .next (received { r with bad := 3 })) ∧
      (order.hold = false → exec (.synthReturnFrame bits order) s = .next
        { s with synth := { s.synth with receiver := ⟨.hunt, r.good, 0⟩, side := none },
                 link := { s.link with synthSyncLosses := min 65535 (s.link.synthSyncLosses + 1) } })) ∧
    (s.synth.clock = .present → r.state = .sync → r.bad ≤ 2 → (good = true ∨ r.bad ≤ 1) →
      (tag = .first → s.synth.side = none → exec (.synthReturnFrame bits order) s = .next (taken (some [b]))) ∧
      (tag ≠ .first → s.synth.side = none → exec (.synthReturnFrame bits order) s = .next (taken none)) ∧
      ∀ buffer, s.synth.side = some buffer →
        let aborted := { s.link with aborts := min 65535 (s.link.aborts + 1) }
        let overrun := { s.link with long := min 65535 (s.link.long + 1) }
        (tag = .first → exec (.synthReturnFrame bits order) s = .next { taken (some [b]) with link := aborted }) ∧
        (tag = .idle → exec (.synthReturnFrame bits order) s = .next { taken none with link := aborted }) ∧
        (tag = .mid → buffer.length ≤ 63 → exec (.synthReturnFrame bits order) s = .next (taken (some (buffer ++ [b])))) ∧
        (tag = .mid ∨ tag = .last → 64 ≤ buffer.length →
          exec (.synthReturnFrame bits order) s = .next { taken none with link := overrun }) ∧
        (tag = .last → buffer.length ≤ 2 → exec (.synthReturnFrame bits order) s = .next
          { taken none with link := { s.link with short := min 65535 (s.link.short + 1) } }) ∧
        (tag = .last → 3 ≤ buffer.length → buffer.length ≤ 63 → crcGood (buffer ++ [b]) = false →
          exec (.synthReturnFrame bits order) s = .next
            { taken none with link := { s.link with badCrc := min 65535 (s.link.badCrc + 1) } }) ∧
        ∀ address kind body, tag = .last → buffer ++ [b] = withCrc (address :: kind :: body) → body.length ≤ 60 →
          s.tables.device.Sound →
          (address.toNat = s.tables.device.address →
            exec (.synthReturnFrame bits order) s = .next (State.request kind body order.reset (taken none))) ∧
          (1 ≤ address.toNat → address.toNat ≤ 0x7E → address.toNat ≠ s.tables.device.address →
            exec (.synthReturnFrame bits order) s = .next (relayed (buffer ++ [b]) (taken none))) ∧
          (0x7F ≤ address.toNat → exec (.synthReturnFrame bits order) s = .next
            { taken none with link := { s.link with badAddress := min 65535 (s.link.badAddress + 1) } }) ∧
          (address = 0 → exec (.synthReturnFrame bits order) s = .next
            (if order.relayFirst then State.request kind body order.reset (relayed (buffer ++ [b]) (taken none))
             else relayed (buffer ++ [b]) (State.request kind body order.reset (taken none)))))) ∧
  ∀ (kind tag : Byte) (body : List Byte) (order : ResetOrder) (s : State),
    exec (.put body) s = .next (s.request 0x20 body order) ∧ exec (.get body) s = .next (s.request 0x21 body order) ∧
    exec (.mode body) s = .next (s.request 0x22 body order) ∧ exec (.clear body) s = .next (s.request 0x23 body order) ∧
    exec (.damp body) s = .next (s.request 0x24 body order) ∧ exec (.status body) s = .next (s.request 0x25 body order) ∧
    exec (.counters body) s = .next (s.request 0x26 body order) ∧
    exec (.resetTracking tag order) s = .next (s.request 0x27 [tag, 1] order) ∧
    exec (.resetFull tag order) s = .next (s.request 0x27 [tag, 2] order) ∧
    (isRequestKind kind = false → exec (.requestBadKind kind body) s = .next (s.request kind body order))

/-! ### The synth frame and the transmitter -/

/-- SYNTH_FORWARD_FRAME (R119, R124, R153, R154, R166): no frame while the clock is ABSENT; else one frame with the store's record,
the PREFILL flag, the pickup receiver's state and the transmitter's byte, the store and the transmitter asked in the order the
operand names. A REPEAT slip is counted and offered as a notice. The byte is $00 with the IDLE tag in ABORTING, which becomes READY;
the next byte of a message in flight, whose LAST byte completes it and updates the open group; in READY the first byte of what the
arbiter picks, or $00 with the IDLE tag. An order with `hold` leaves the completion to its own step, and a completion left so is
taken before the next frame (log 1, DESIGN CHOICE). -/
def Obligations.SynthForwardFrameSent : Prop :=
  ∀ (order : SynthOrder) (s : State) (store : Store) (record : FrameRecord) (prefill : Bool) (repeated : Option Nat),
    let read := fun t : State =>
      match repeated with
      | none => { t with store := store }
      | some frames => State.offerNotice
          { t with store := store, link := { t.link with repeatSlips := min 65535 (t.link.repeatSlips + 1) } }
          (.slip .repeat frames)
    let sent := fun (t : State) (tx : TxState) (tag : Tag) (b : Byte) =>
      { t with tx := { t.tx with state := tx },
               synthOut := some (synthForwardFrame record prefill (s.pickup.receiver.state == .sync) tag b) }
    let grouped := fun (item : TxItem) (t : State) =>
      match item with
      | .strike n channel note => t.setUnit n { t.unit n with group := some ⟨channel, note⟩ }
      | .shift n note => t.setUnit n { t.unit n with group := (t.unit n).group.map fun g => ⟨g.channel, note⟩ }
      | .lift n => t.setUnit n { t.unit n with group := none }
      | .other => t
    (s.synth.clock = .absent → exec (.synthForwardFrame order) s = .next { s with synthOut := none }) ∧
    (s.synth.clock = .present → s.tx.CompletionDue → ∀ t, exec .transmissionComplete s = .next t →
      exec (.synthForwardFrame order) s = exec (.synthForwardFrame order) t) ∧
    (s.synth.clock = .present → s.store.readOut = ⟨store, record, prefill, repeated⟩ →
      (s.tx.state = .aborting → exec (.synthForwardFrame order) s = .next (sent (read s) .ready .idle 0)) ∧
      (∀ m, s.tx.state = .sending m → m.position < m.bytes.length →
        let tag := if m.position = 0 then .first else if m.position + 1 = m.bytes.length then .last else .mid
        let b := m.bytes.getD m.position 0
        (m.position + 1 < m.bytes.length ∨ order.hold = true → exec (.synthForwardFrame order) s = .next
          (sent (read s) (.sending { m with position := m.position + 1 }) tag b)) ∧
        (m.position + 1 = m.bytes.length → order.hold = false → exec (.synthForwardFrame order) s = .next
          (grouped m.item (sent (read s) .ready tag b)))) ∧
      (s.tx.state = .ready → ∀ t picked, (if order.transmitterFirst then s.pick else (read s).pick) = (t, picked) →
        (picked = none → exec (.synthForwardFrame order) s = .next
          (sent (if order.transmitterFirst then read t else t) .ready .idle 0)) ∧
        ∀ m, picked = some m → m.position = 0 → 2 ≤ m.bytes.length → exec (.synthForwardFrame order) s = .next
          (sent (if order.transmitterFirst then read t else t) (.sending { m with position := 1 }) .first
            (m.bytes.getD 0 0))))

/-- The arbiter (R113, R115, R120 to R123): notices first, then the string queues round robin, then answers, then relay-down, then
the slots round robin with the GLIDE before the PRESS. A queue is eligible when it holds a record and its string is ACTIVE or MUTED;
slots are eligible when one is full, the queue is empty and the string is ACTIVE; the round robin begins after the string last
served and ends with it. A taken note record becomes its message, a LIFT with the channel and note of the open group; without an
open group a SHIFT, a LIFT or a value is discarded and the arbiter picks again. -/
def Obligations.ArbiterOrder : Prop :=
  ∀ s : State,
    let d := s.tables.device
    let start := fun (item : TxItem) (kind : Byte) (body : List Byte) => some (⟨item, message d kind body, 0⟩ : InFlight)
    let queued := fun n : StringNo => (s.record n).outputMode ≠ .frozen ∧ (s.unit n).queue ≠ []
    let slotted := fun n : StringNo => (s.record n).outputMode = .active ∧ (s.unit n).queue = [] ∧
      ((s.unit n).glide ≠ none ∨ (s.unit n).press ≠ none)
    let turn := fun pointer n : StringNo => (n.num + 5 - pointer.num) % 6
    let next := fun (pointer : StringNo) (eligible : StringNo → Prop) (n : StringNo) =>
      eligible n ∧ ∀ n', eligible n' → turn pointer n ≤ turn pointer n'
    (∀ notice rest, s.tx.notices = notice :: rest → s.pick =
      ({ s with tx := { s.tx with notices := rest } }, start .other (noticeMessage notice).1 (noticeMessage notice).2)) ∧
    (s.tx.notices = [] →
      (∀ n record rest, next s.tx.queuePointer queued n → (s.unit n).queue = record :: rest →
        let t := { s with tx := { s.tx with queuePointer := n } }.setUnit n { s.unit n with queue := rest }
        (∀ c note v st p m, record = .strike c note v st p m →
          s.pick = (t, start (.strike n c note) 1 (strikeBody n c note v st p m))) ∧
        (∀ c note st k m g, record = .shift c note st k m → (s.unit n).group = some g →
          s.pick = (t, start (.shift n note) 2 (shiftBody n c note st k m))) ∧
        (∀ st cause g, record = .lift st cause → (s.unit n).group = some g →
          s.pick = (t, start (.lift n) 3 (liftBody n g st cause))) ∧
        ((∀ c note v st p m, record ≠ .strike c note v st p m) → (s.unit n).group = none → s.pick = t.pick)) ∧
      ((∀ n, ¬ queued n) →
        (∀ m rest, s.answers = m :: rest → s.pick = ({ s with answers := rest }, some ⟨.other, m, 0⟩)) ∧
        (∀ m rest, s.answers = [] → s.relayDown = m :: rest →
          s.pick = ({ s with relayDown := rest }, some ⟨.other, m, 0⟩)) ∧
        (s.answers = [] → s.relayDown = [] →
          ((∀ n, ¬ slotted n) → s.pick = (s, none)) ∧
          ∀ n, next s.tx.slotPointer slotted n →
            let t := { s with tx := { s.tx with slotPointer := n } }
            (∀ v, (s.unit n).glide = some v →
              (∀ g, (s.unit n).group = some g →
                s.pick = (t.setUnit n { s.unit n with glide := none }, start .other 4 (glideBody n v))) ∧
              ((s.unit n).group = none → s.pick = (t.setUnit n { s.unit n with glide := none }).pick)) ∧
            ∀ v, (s.unit n).glide = none → (s.unit n).press = some v →
              (∀ g, (s.unit n).group = some g →
                s.pick = (t.setUnit n { s.unit n with press := none }, start .other 5 (pressBody n v))) ∧
              ((s.unit n).group = none → s.pick = (t.setUnit n { s.unit n with press := none }).pick))))

/-- TRANSMISSION_COMPLETE (R124): after the LAST byte the transmitter is READY, and a STRIKE opens its string's group, a SHIFT
moves the note of an open group, a LIFT closes it; any other message changes no group. -/
def Obligations.TransmissionCompleteUpdatesGroup : Prop :=
  ∀ (m : InFlight) (s : State), s.tx.state = .sending m → m.bytes.length ≤ m.position →
    let t := { s with tx := { s.tx with state := .ready } }
    (∀ n c note, m.item = .strike n c note →
      exec .transmissionComplete s = .next (t.setUnit n { s.unit n with group := some ⟨c, note⟩ })) ∧
    (∀ n note g, m.item = .shift n note → (s.unit n).group = some g →
      exec .transmissionComplete s = .next (t.setUnit n { s.unit n with group := some ⟨g.channel, note⟩ })) ∧
    (∀ n, m.item = .lift n → exec .transmissionComplete s = .next (t.setUnit n { s.unit n with group := none })) ∧
    (m.item = .other → exec .transmissionComplete s = .next t)

/-- CLOCK_LOST and CLOCK_RETURN (R128, R157, R164): the loss flushes the store to HALTED, sets a message in flight back to its
first byte and drops the open message; the return starts PREFILL from an empty store and offers a LINK notice. A completion left
due is taken first (log 1, DESIGN CHOICE). That a loss of an ABSENT clock and a return of a PRESENT one do nothing is the model's
(log 8, DEDUCED). -/
def Obligations.ClockLostAndReturn : Prop :=
  ∀ s : State,
    let flushed := fun state : StoreState => { s.store with state := state, fill := 0, read := s.store.write }
    (s.synth.clock = .present → ¬ s.tx.CompletionDue →
      exec .clockLost s = .next
        { s with store := flushed .halted, synth := { s.synth with clock := .absent, side := none },
                 tx := { s.tx with state := match s.tx.state with
                   | .sending m => .sending { m with position := 0 }
                   | .ready => .ready
                   | .aborting => .aborting } }) ∧
    (s.synth.clock = .present → s.tx.CompletionDue → ∀ t, exec .transmissionComplete s = .next t →
      exec .clockLost s = exec .clockLost t) ∧
    (s.synth.clock = .absent →
      exec .clockReturn s = .next (State.offerNotice
        { s with store := flushed .prefill, synth := { s.synth with clock := .present } } (.link .synthRestored))) ∧
    (s.synth.clock = .absent → exec .clockLost s = .next s) ∧ (s.synth.clock = .present → exec .clockReturn s = .next s)

/-! ### Requests -/

/-- Requests that change nothing but the answer queue: an unknown kind is answered BAD_KIND (R177), GET with the record as stored
(R179), STATUS with the status bytes (R184, R194), and a wrong table, index or length with its result code. The quick status of an
answer has its bits where R192 puts them, set as R178 says. -/
def Obligations.ReadingRequestsAnswered : Prop :=
  (∀ (tag : Byte) (s : State), s.Serves →
    (∀ kind body, isRequestKind kind = false →
      exec (.requestBadKind kind (tag :: body)) s = .next (s.answered kind tag 2 []) ∧
      exec (.requestBadKind kind []) s = .next (s.answered kind 0 2 [])) ∧
    exec (.get [tag, 1, 0]) s = .next (s.answered 0x21 tag 0 s.tables.device.bytes) ∧
    (∀ n : StringNo, exec (.get [tag, 2, byte n.num]) s = .next (s.answered 0x21 tag 0 (s.record n).bytes) ∧
      exec (.get [tag, 3, byte n.num]) s = .next (s.answered 0x21 tag 0 (rowBytes (s.tables.matrix.get n)))) ∧
    (∀ n : StringNo,
      let u := s.unit n
      let b := fun v : Nat => BitVec.ofNat 8 v
      let q := match u.pitch with | .held q _ => q | .tracking q _ => q | .none => 0
      exec (.status [tag, byte n.num]) s = .next (s.answered 0x25 tag 0
        [b (match u.state with
            | .off => 0 | .idle => 1 | .attack => 2 | .sounding => 3 | .damped => 4 | .faultWait => 5 | .faultTest => 6
            | .faultLatched => 7),
         b (match u.tracker.lock with | .search => 0 | .locked => 1),
         b (match u.tracker.lock, u.tracker.k with | .locked, some k => k.num | _, _ => 0),
         b (match u.context with | .struck note => note.held | _ => 0), b (q / 256), b q, b (u.env.level / 65536),
         b (u.env.level / 256), b u.env.level,
         b (match u.monitor.cause with | none => 0 | some .clip => 1 | some .stuck => 2 | some .converter => 3),
         b u.monitor.retries, b u.queue.length,
         b ((if u.glide = none then 0 else 1) + if u.press = none then 0 else 2)])) ∧
    (∀ i : Fin 32, exec (.get [tag, 4, byte i.val]) s = .next (s.answered 0x21 tag 0 (s.tables.zones.get i).bytes)) ∧
    (∀ i : Fin 4, exec (.get [tag, 5, byte i.val]) s = .next (s.answered 0x21 tag 0 (curveBytes (s.tables.curves.get i)))) ∧
    (∀ table index : Byte, table.toNat = 0 ∨ 6 ≤ table.toNat →
      exec (.get [tag, table, index]) s = .next (s.answered 0x21 tag 3 [])) ∧
    (∀ table index : Byte, (table = 1 ∧ index ≠ 0) ∨ (table = 2 ∨ table = 3) ∧ (index = 0 ∨ 7 ≤ index.toNat) ∨
        (table = 4 ∧ 32 ≤ index.toNat) ∨ (table = 5 ∧ 4 ≤ index.toNat) →
      exec (.get [tag, table, index]) s = .next (s.answered 0x21 tag 4 [])) ∧
    (∀ index : Byte, 7 ≤ index.toNat → exec (.status [tag, index]) s = .next (s.answered 0x25 tag 4 [])) ∧
    (∀ body, body.length ≠ 2 → exec (.get (tag :: body)) s = .next (s.answered 0x21 tag 5 [])) ∧
    (∀ body, body.length ≠ 1 → exec (.status (tag :: body)) s = .next (s.answered 0x25 tag 5 [])) ∧
    exec (.get []) s = .next (s.answered 0x21 0 5 []) ∧ exec (.status []) s = .next (s.answered 0x25 0 5 []) ∧
    exec (.status [tag, 0]) s = .next (s.answered 0x25 tag 0
      [if s.pickup.receiver.state = .sync then 1 else 0, if s.synth.clock = .present then 1 else 0, byte s.store.fill,
       if s.store.state = .flowing then 0 else 1, byte (s.index.toNat / 256), byte s.index.toNat,
       byte s.tables.device.address])) ∧
  ∀ (states : Six StringState) (pickup : SyncState) (store : StoreState),
    ∃ first second : Byte, quickStatus states pickup store = [first, second] ∧
      (∀ n : StringNo,
        (first.getLsbD (n.num - 1) = true ↔
          states.get n = .attack ∨ states.get n = .sounding ∨ states.get n = .damped) ∧
        (second.getLsbD (n.num - 1) = true ↔
          states.get n = .faultWait ∨ states.get n = .faultTest ∨ states.get n = .faultLatched)) ∧
      (first.getLsbD 6 = true ↔ pickup = .sync) ∧ (first.getLsbD 7 = true ↔ store = .prefill ∨ store = .halted) ∧
      second.getLsbD 6 = false ∧ second.getLsbD 7 = false

/-- A request that finds four answers waiting is dropped and counted, and nothing else happens (R176). With the clock ABSENT no
request but a RESET delivered before the loss (R128) can reach the part, and the model then does nothing (log 8, DEDUCED). -/
def Obligations.FullAnswerQueueDropsRequests : Prop :=
  ∀ (kind tag : Byte) (body : List Byte) (order : ResetOrder) (s : State),
    let requests := [Instr.requestBadKind kind body, .put body, .get body, .mode body, .clear body, .damp body, .status body,
      .counters body]
    let resets := [Instr.resetTracking tag order, .resetFull tag order]
    let dropped := { s with link := { s.link with requestsDropped := min 65535 (s.link.requestsDropped + 1) } }
    (s.synth.clock = .present → 4 ≤ s.answers.length → ∀ c ∈ requests, exec c s = .next dropped) ∧
    (4 ≤ s.answers.length → ∀ c ∈ resets, exec c s = .next dropped) ∧
    (s.synth.clock = .absent → ∀ c ∈ requests, exec c s = .next s)

/-- PUT (R179 to R182, R193, R195): a record of the right length and with good codes is stored with every field at the nearer end of
its range and then fixed across fields, whatever its bytes, and the answer carries it as stored, with OK when it is stored as
offered and CLAMPED otherwise (log 14, DEDUCED); a sound record is stored as offered. A PUT that writes neither the enable nor the
output mode of a string changes nothing but the table. A code outside its list, an unknown table, a wrong index and a wrong length
are answered BAD_VALUE, BAD_TABLE, BAD_INDEX and BAD_LENGTH, with no other change. -/
def Obligations.PutStoresRecords : Prop :=
  (∀ (tag : Byte) (s : State), s.Serves →
    let result := fun offered stored : List Byte => if stored = offered then 0 else 1
    (∀ bytes, bytes.length = 7 → (readDevice bytes).Sound ∧
      exec (.put ([tag, 1, 0] ++ bytes)) s = .next
        ({ s with tables := { s.tables with device := readDevice bytes } }.answered 0x20 tag
          (result bytes (readDevice bytes).bytes) (readDevice bytes).bytes)) ∧
    (∀ (n : StringNo) (bytes : List Byte) output sample, bytes.length = 43 →
      OutputMode.ofCode (byteAt bytes 1) = some output → SampleMode.ofCode (byteAt bytes 2) = some sample →
      let r := readString output sample bytes
      r.enable = (s.record n).enable → r.outputMode = (s.record n).outputMode →
      exec (.put ([tag, 2, byte n.num] ++ bytes)) s = .next
        ({ s with tables := { s.tables with strings := s.tables.strings.set n r } }.answered 0x20 tag
          (result bytes r.bytes) r.bytes)) ∧
    (∀ (n : StringNo) (r : StringRecord), r.Sound → r.enable = (s.record n).enable →
      r.outputMode = (s.record n).outputMode →
      exec (.put ([tag, 2, byte n.num] ++ r.bytes)) s = .next
        ({ s with tables := { s.tables with strings := s.tables.strings.set n r } }.answered 0x20 tag 0 r.bytes)) ∧
    (∀ (n : StringNo) (bytes : List Byte), bytes.length = 43 → 3 ≤ byteAt bytes 1 ∨ 3 ≤ byteAt bytes 2 →
      exec (.put ([tag, 2, byte n.num] ++ bytes)) s = .next (s.answered 0x20 tag 6 [])) ∧
    (∀ (n : StringNo) bytes, bytes.length = 12 → RowSound n (readRow n bytes) ∧
      exec (.put ([tag, 3, byte n.num] ++ bytes)) s = .next
        ({ s with tables := { s.tables with matrix := s.tables.matrix.set n (readRow n bytes) } }.answered 0x20 tag
          (result bytes (rowBytes (readRow n bytes))) (rowBytes (readRow n bytes)))) ∧
    (∀ (i : Fin 32) (bytes : List Byte) mode, bytes.length = 8 → ZoneMode.ofCode (byteAt bytes 4) = some mode →
      exec (.put ([tag, 4, byte i.val] ++ bytes)) s = .next
        ({ s with tables := { s.tables with zones := s.tables.zones.set i.val (readZone mode bytes) } }.answered 0x20 tag
          (result bytes (readZone mode bytes).bytes) (readZone mode bytes).bytes)) ∧
    (∀ (i : Fin 32) (z : ZoneRecord), z.Sound →
      exec (.put ([tag, 4, byte i.val] ++ z.bytes)) s = .next
        ({ s with tables := { s.tables with zones := s.tables.zones.set i.val z } }.answered 0x20 tag 0 z.bytes)) ∧
    (∀ (i : Fin 32) (bytes : List Byte), bytes.length = 8 → 2 ≤ byteAt bytes 4 →
      exec (.put ([tag, 4, byte i.val] ++ bytes)) s = .next (s.answered 0x20 tag 6 [])) ∧
    (∀ (i : Fin 4) bytes, bytes.length = 16 → CurveSound (readCurve bytes) ∧
      exec (.put ([tag, 5, byte i.val] ++ bytes)) s = .next
        ({ s with tables := { s.tables with curves := s.tables.curves.set i.val (readCurve bytes) } }.answered 0x20 tag
          (result bytes (curveBytes (readCurve bytes))) (curveBytes (readCurve bytes)))) ∧
    (∀ (table index : Byte) (bytes : List Byte),
      (table.toNat = 0 ∨ 6 ≤ table.toNat → exec (.put ([tag, table, index] ++ bytes)) s = .next (s.answered 0x20 tag 3 [])) ∧
      ((table = 1 ∧ index ≠ 0) ∨ (table = 2 ∨ table = 3) ∧ (index = 0 ∨ 7 ≤ index.toNat) ∨
          (table = 4 ∧ 32 ≤ index.toNat) ∨ (table = 5 ∧ 4 ≤ index.toNat) →
        exec (.put ([tag, table, index] ++ bytes)) s = .next (s.answered 0x20 tag 4 [])) ∧
      ((table = 1 ∧ index = 0 ∧ bytes.length ≠ 7) ∨ (table = 2 ∧ 1 ≤ index.toNat ∧ index.toNat ≤ 6 ∧ bytes.length ≠ 43) ∨
          (table = 3 ∧ 1 ≤ index.toNat ∧ index.toNat ≤ 6 ∧ bytes.length ≠ 12) ∨
          (table = 4 ∧ index.toNat ≤ 31 ∧ bytes.length ≠ 8) ∨ (table = 5 ∧ index.toNat ≤ 3 ∧ bytes.length ≠ 16) →
        exec (.put ([tag, table, index] ++ bytes)) s = .next (s.answered 0x20 tag 5 [])) ∧
      exec (.put [tag, table]) s = .next (s.answered 0x20 tag 5 []) ∧ exec (.put [tag]) s = .next (s.answered 0x20 tag 5 []) ∧
      exec (.put []) s = .next (s.answered 0x20 0 5 []))) ∧
  (∀ (output : OutputMode) (sample : SampleMode) bytes, (readString output sample bytes).Sound) ∧
  (∀ (mode : ZoneMode) bytes, (readZone mode bytes).Sound) ∧
  ∀ (output : OutputMode) (sample : SampleMode) (mode : ZoneMode) (bytes : List Byte),
    let b := fun i : Nat => (bytes.getD i 0).toNat
    let b2 := fun i : Nat => b i * 256 + b (i + 1)
    let b3 := fun i : Nat => b i * 65536 + b (i + 1) * 256 + b (i + 2)
    let near := fun lo hi v : Nat => if v < lo then lo else if hi < v then hi else v
    let link := fun v : Nat => if h : v < 32 then some (⟨v, h⟩ : Fin 32) else none
    let attach := near 16 8388607 (b3 3)
    let span := near 1 8388607 (b3 12)
    let fixedAttach := if span ≤ attach ∧ attach = 8388607 then 8388606 else attach
    let fixedSpan := if span ≤ attach then (if attach = 8388607 then 8388607 else attach + 1) else span
    let release := near 1 8388607 (b3 6)
    readString output sample bytes =
      { enable := b 0 ≠ 0, outputMode := output, sampleMode := sample, attach := fixedAttach,
        releaseThreshold := if fixedAttach ≤ release then fixedAttach - 1 else release, releaseHold := near 1 4095 (b2 9),
        decayShift := near 4 15 (b 11), velocitySpan := fixedSpan, lowPassShift := near 0 6 (b 15),
        hysteresisShift := near 1 6 (b 16), tolerance := near 4 64 (b 17), loopShift := near 0 7 (b 18),
        confirm := near 1 8 (b 19), strikeDeadline := near 0 4095 (b2 20), zoneHead := link (b 22),
        noteHysteresis := near 0 24 (b 23), reattackRatio := near 9 64 (b 24), reattackGuard := near 0 4095 (b2 25),
        glideStep := near 1 16 (b 27), glideInterval := near 8 1024 (b2 28), pressInterval := near 0 4095 (b2 30),
        clipLevel := near 1 8388607 (b3 32), clipCount := near 1 255 (b 35), stuckCount := near 1 255 (b 36),
        converterFlagUse := b 37 ≠ 0, faultLatch := b 38 ≠ 0, faultWait := near 1 15 (b 39), faultTest := near 1 15 (b 40),
        dampTime := b2 41 } ∧
    readDevice bytes =
      { address := near 1 126 (b 0), fA := near 41500 46600 (b2 1), fs := near 32000 96000 (b3 3),
        faultNotices := (bytes.getD 6 0).getLsbD 0, recoverNotices := (bytes.getD 6 0).getLsbD 1,
        slipNotices := (bytes.getD 6 0).getLsbD 2, linkNotices := (bytes.getD 6 0).getLsbD 3 } ∧
    (∀ n t : StringNo, (readRow n bytes).get t =
      let v := (BitVec.ofNat 16 (b2 (2 * (t.num - 1)))).toInt
      if t = n then 0 else if v < -16384 then -16384 else if 16383 < v then 16383 else v) ∧
    (let v := (BitVec.ofNat 8 (b 3)).toInt
     readZone mode bytes =
      { low := near 0 127 (b 0), high := near 0 127 (b 1), channel := near 1 16 (b 2),
        transpose := if v < -48 then -48 else if 48 < v then 48 else v, mode := mode, bendRange := near 1 24 (b 5),
        curve := Fin.ofNat 4 (near 0 3 (b 6)), next := link (b 7) }) ∧
    ∀ i : Fin 16, (readCurve bytes).get i = near 1 127 (b i.val)

/-- The enable field (R20, R32, R145, R182): written to 0 by a PUT it sends the string to OFF with the envelope at 0, the tracker
stopped, the fault monitor cleared and an announced note ended by a DISABLED LIFT, any other with no record; written to 1 it sends
an OFF string to IDLE. Lock losses already decided stay counted (log 20). A PUT that changes the output mode too acts on the string
as the mode change leaves it, MUTED with its queue and slots flushed and its note unannounced (R114; the order of the two is log
15, DEDUCED). -/
def Obligations.EnableTurnsStringOffAndOn : Prop :=
  ∀ (tag : Byte) (n : StringNo) (r : StringRecord) (s : State), s.Serves → r.Sound →
    let inFlight := match s.tx.state with
      | .sending m => (match m.item with | .strike n' _ _ => n' == n | .shift n' _ => n' == n | .lift _ => false | .other => false)
      | .ready => false
      | .aborting => false
    let v := s.unit n
    let u := if r.outputMode = .muted ∧ (s.record n).outputMode ≠ .muted then
        { v with queue := if v.group.isSome || inFlight then [.lift s.index .mute] else [], glide := none, press := none,
                 context := match v.context with
                   | .struck note => .struck { note with announced := false }
                   | c => c }
      else v
    let t := { s with tables := { s.tables with strings := s.tables.strings.set n r } }
    let silent := fun state => { u with state := state, env := ⟨0, 0, 0, 0, 0⟩, damp := 0, tracker := .fresh .stopped,
                                        monitor := .clear }
    let off := { silent .off with due := { Due.none with lockLoss := u.due.lockLoss } }
    (r.enable = false → (s.record n).enable = true →
      (u.state = .idle ∨ u.state = .damped ∨ u.state.faulted = true →
        exec (.put ([tag, 2, byte n.num] ++ r.bytes)) s = .next ((t.setUnit n off).answered 0x20 tag 0 r.bytes)) ∧
      (u.state = .attack → exec (.put ([tag, 2, byte n.num] ++ r.bytes)) s = .next
        ((t.setUnit n { off with context := .empty, pitch := .none }).answered 0x20 tag 0 r.bytes)) ∧
      (∀ note, u.state = .sounding → u.context = .struck note →
        note.announced = false ∨ u.accepts r.outputMode = false ∨ 8 ≤ u.queue.length →
        exec (.put ([tag, 2, byte n.num] ++ r.bytes)) s = .next
          ((t.setUnit n { off with context := .empty, pitch := .none }).answered 0x20 tag 0 r.bytes)) ∧
      ∀ note, u.state = .sounding → u.context = .struck note → note.announced = true → u.accepts r.outputMode = true →
        u.queue.length ≤ 7 →
        exec (.put ([tag, 2, byte n.num] ++ r.bytes)) s = .next
          ((t.setUnit n { off with context := .empty, pitch := .none, queue := u.queue ++ [.lift s.index .disabled],
                                   glide := none, press := none }).answered 0x20 tag 0 r.bytes)) ∧
    (r.enable = true → (s.record n).enable = false → u.state = .off →
      exec (.put ([tag, 2, byte n.num] ++ r.bytes)) s = .next ((t.setUnit n (silent .idle)).answered 0x20 tag 0 r.bytes))

/-- MODE, and the output mode of a PUT that keeps the enable (R113 to R115, R182, R183): the field is written; the change to MUTED
flushes the queue and the slots, makes the note unannounced and, for an open group or a STRIKE or SHIFT in flight, leaves a MUTE
LIFT as the only record; any other write changes the record only. A MODE of a string outside 1…6, with a code outside its list, or
of a wrong length is answered BAD_INDEX, BAD_VALUE and BAD_LENGTH (R177). -/
def Obligations.ModeWritesOutputMode : Prop :=
  ∀ (tag : Byte) (n : StringNo) (s : State), s.Serves →
    let u := s.unit n
    let written := fun r : StringRecord => { s with tables := { s.tables with strings := s.tables.strings.set n r } }
    let flushed := { u with queue := [], glide := none, press := none,
                            context := match u.context with
                              | .struck note => .struck { note with announced := false }
                              | c => c }
    let inFlight := ∃ m, s.tx.state = .sending m ∧ ((∃ c note, m.item = .strike n c note) ∨ ∃ note, m.item = .shift n note)
    let leaves := fun (mode : OutputMode) (result : StringUnit → Prop) =>
      (mode ≠ .muted ∨ (s.record n).outputMode = .muted → result u) ∧
      (mode = .muted → (s.record n).outputMode ≠ .muted →
        (u.group.isSome = true ∨ inFlight → result { flushed with queue := [.lift s.index .mute] }) ∧
        (u.group = none → ¬ inFlight → result flushed))
    (∀ mode, leaves mode fun v => exec (.mode [tag, byte n.num, byte mode.code]) s =
      .next (((written { s.record n with outputMode := mode }).setUnit n v).answered 0x22 tag 0 [])) ∧
    (∀ (bytes : List Byte) mode sample, bytes.length = 43 → OutputMode.ofCode (byteAt bytes 1) = some mode →
      SampleMode.ofCode (byteAt bytes 2) = some sample →
      let r := readString mode sample bytes
      r.enable = (s.record n).enable → leaves mode fun v => exec (.put ([tag, 2, byte n.num] ++ bytes)) s =
        .next (((written r).setUnit n v).answered 0x20 tag (if r.bytes = bytes then 0 else 1) r.bytes)) ∧
    (∀ code : Byte, 3 ≤ code.toNat → exec (.mode [tag, byte n.num, code]) s = .next (s.answered 0x22 tag 6 [])) ∧
    (∀ index code : Byte, index = 0 ∨ 7 ≤ index.toNat → exec (.mode [tag, index, code]) s = .next (s.answered 0x22 tag 4 [])) ∧
    (∀ body, body.length ≠ 2 → exec (.mode (tag :: body)) s = .next (s.answered 0x22 tag 5 [])) ∧
    exec (.mode []) s = .next (s.answered 0x22 0 5 [])

/-- CLEAR (R140): a string in a fault state without a condition present is sent to IDLE with a RECOVER notice; with one it is
answered STILL_FAULTED, and outside the fault states NO_EFFECT, with no other change. A string outside 1…6 is answered BAD_INDEX and
a wrong length BAD_LENGTH (R177, R183). -/
def Obligations.ClearRecoversFaultedString : Prop :=
  ∀ (tag : Byte) (n : StringNo) (s : State), s.Serves →
    let u := s.unit n
    (u.state.faulted = true → conditionPresent (s.record n) u.monitor = none →
      exec (.clear [tag, byte n.num]) s = .next (((s.setUnit n
        { u with state := .idle, env := ⟨0, 0, 0, 0, 0⟩, damp := 0, tracker := .fresh .stopped,
                 monitor := { u.monitor with cause := none, wait := 0, test := 0 } }).offerNotice (.recover n)).answered
          0x23 tag 0 [])) ∧
    (∀ cause, u.state.faulted = true → conditionPresent (s.record n) u.monitor = some cause →
      exec (.clear [tag, byte n.num]) s = .next (s.answered 0x23 tag 8 [])) ∧
    (u.state.faulted = false → exec (.clear [tag, byte n.num]) s = .next (s.answered 0x23 tag 7 [])) ∧
    (∀ index : Byte, index = 0 ∨ 7 ≤ index.toNat → exec (.clear [tag, index]) s = .next (s.answered 0x23 tag 4 [])) ∧
    (∀ body, body.length ≠ 1 → exec (.clear (tag :: body)) s = .next (s.answered 0x23 tag 5 [])) ∧
    exec (.clear []) s = .next (s.answered 0x23 0 5 [])

/-- DAMP (R142): in ATTACK and SOUNDING the string goes to DAMPED with e kept, the damp timer loaded and an announced note ended
by a FORCED LIFT; in DAMPED the timer is loaded again; in any other state it is answered NO_EFFECT. A string outside 1…6 is
answered BAD_INDEX and a wrong length BAD_LENGTH (R177, R183). -/
def Obligations.DampForcesNoteToEnd : Prop :=
  ∀ (tag : Byte) (n : StringNo) (s : State), s.Serves →
    let u := s.unit n
    let r := s.record n
    let damped := { u with state := .damped, env := ⟨u.env.level, 0, 0, 0, 0⟩, damp := r.dampTime,
                           tracker := .fresh .stopped, context := .empty, pitch := .none,
                           due := { u.due with expiry := none } }
    (u.state = .attack → exec (.damp [tag, byte n.num]) s = .next ((s.setUnit n damped).answered 0x24 tag 0 [])) ∧
    (∀ note, u.state = .sounding → u.context = .struck note →
      (note.announced = false ∨ u.accepts r.outputMode = false ∨ 8 ≤ u.queue.length →
        exec (.damp [tag, byte n.num]) s = .next ((s.setUnit n damped).answered 0x24 tag 0 [])) ∧
      (note.announced = true → u.accepts r.outputMode = true → u.queue.length ≤ 7 →
        exec (.damp [tag, byte n.num]) s = .next ((s.setUnit n
          { damped with queue := u.queue ++ [.lift s.index .forced], glide := none, press := none }).answered 0x24 tag 0 []))) ∧
    (u.state = .damped → exec (.damp [tag, byte n.num]) s = .next
      ((s.setUnit n { u with damp := r.dampTime }).answered 0x24 tag 0 [])) ∧
    (u.state = .off ∨ u.state = .idle ∨ u.state.faulted = true →
      exec (.damp [tag, byte n.num]) s = .next (s.answered 0x24 tag 7 [])) ∧
    (∀ index : Byte, index = 0 ∨ 7 ≤ index.toNat → exec (.damp [tag, index]) s = .next (s.answered 0x24 tag 4 [])) ∧
    (∀ body, body.length ≠ 1 → exec (.damp (tag :: body)) s = .next (s.answered 0x24 tag 5 [])) ∧
    exec (.damp []) s = .next (s.answered 0x24 0 5 [])

/-- COUNTERS (R185): the answer carries the group's counters as they stood, two bytes each in order; with the clear flag they are
then 0. A clear flag above 1 is answered BAD_VALUE, a group above 6 BAD_INDEX and a wrong length BAD_LENGTH (R177). -/
def Obligations.CountersReadAndCleared : Prop :=
  ∀ (tag : Byte) (n : StringNo) (s : State), s.Serves →
    let c := (s.unit n).counters
    let l := s.link
    let words := fun values : List Nat => values.flatMap fun v => [byte (v / 256), byte v]
    let string := words [c.ghosts, c.unzoned, c.lost, c.merged, c.lockLosses, c.faults, c.retries]
    let link := words [l.pickupSyncLosses, l.synthSyncLosses, l.badCrc, l.short, l.long, l.aborts, l.badAddress, l.relayDrops,
      l.requestsDropped, l.noticesLost, l.repeatSlips, l.dropSlips]
    exec (.counters [tag, byte n.num, 0]) s = .next (s.answered 0x26 tag 0 string) ∧
    exec (.counters [tag, byte n.num, 1]) s = .next
      ((s.setUnit n { s.unit n with counters := ⟨0, 0, 0, 0, 0, 0, 0⟩ }).answered 0x26 tag 0 string) ∧
    exec (.counters [tag, 0, 0]) s = .next (s.answered 0x26 tag 0 link) ∧
    exec (.counters [tag, 0, 1]) s = .next
      ({ s with link := ⟨0, 0, 0, 0, 0, 0, 0, 0, 0, 0, 0, 0⟩ }.answered 0x26 tag 0 link) ∧
    (∀ clear : Byte, 2 ≤ clear.toNat → exec (.counters [tag, byte n.num, clear]) s = .next (s.answered 0x26 tag 6 []) ∧
      exec (.counters [tag, 0, clear]) s = .next (s.answered 0x26 tag 6 [])) ∧
    (∀ group clear : Byte, 7 ≤ group.toNat → exec (.counters [tag, group, clear]) s = .next (s.answered 0x26 tag 4 [])) ∧
    (∀ body, body.length ≠ 2 → exec (.counters (tag :: body)) s = .next (s.answered 0x26 tag 5 [])) ∧
    exec (.counters []) s = .next (s.answered 0x26 0 5 [])

/-- RESET TRACKING and RESET FULL (R35, R56, R105, R126 to R128, R146, R160, R174, R186, R187), with nothing due but reports to the note
engines, which are discarded (R56), and nothing arriving between reset and answer: every string at its start values, an OFF one OFF
under TRACKING; queues and slots flushed, with a RESET LIFT for an open group; a message in flight cut, with the clock PRESENT or
ABSENT; notices and answers flushed and the pointers at string 6; FULL also puts the tables at their defaults, the counters at 0 and
the relay buffers empty. The only answer is OK, with the quick status of the strings as the late ones stood before and the others
after. The store, the receivers, the index, the groups and the clock stay. A lock that arrives at a late string's note engine
between reset and answer, and finds a zone, changes nothing more: its STRIKE is refused and not counted (R127). A RESET with another
scope is answered BAD_VALUE, one of another length BAD_LENGTH. Which strings are late is an operand of the model (log 16). -/
def Obligations.ResetsReachEveryBlock : Prop :=
  ∀ (tag : Byte) (order : ResetOrder) (s : State), s.answers.length ≤ 3 →
    let unit := fun (full : Bool) (n : StringNo) =>
      let u := s.unit n
      { StringUnit.powerOn with
        state := if u.state = .off ∧ full = false then .off else .idle
        queue := if u.group.isSome then [.lift s.index .reset] else []
        group := u.group
        counters := if full then ⟨0, 0, 0, 0, 0, 0, 0⟩ else u.counters }
    let tx : Transmitter := ⟨match s.tx.state with | .sending _ => .aborting | .ready => .ready | .aborting => .aborting,
      .s6, .s6, []⟩
    let answer := fun (full : Bool) (device : DeviceRecord) =>
      withCrc ([byte device.address, 0x10#8, 0x27#8, tag, 0#8] ++
        quickStatus (Six.ofFn fun n => if order.late.get n then (s.unit n).state else (unit full n).state)
          s.pickup.receiver.state s.store.state)
    let tracking := { s with units := Six.ofFn (unit false), tx := tx, answers := [answer false s.tables.device] }
    let full := { s with units := Six.ofFn (unit true), tx := tx, tables := .default,
                         link := ⟨0, 0, 0, 0, 0, 0, 0, 0, 0, 0, 0, 0⟩, relayUp := [], relayDown := [],
                         answers := [answer true .default] }
    ((∀ n, { (s.unit n).due with report := none, lock := none } = Due.none) → ¬ s.tx.CompletionDue →
      (order.meanwhile = [] → exec (.resetTracking tag order) s = .next tracking ∧ exec (.resetFull tag order) s = .next full) ∧
      ∀ n report deadline z, order.meanwhile = [.event n .lock] → order.late.get n = true →
        (s.unit n).due.lock = some report → (s.unit n).state = .attack → (s.unit n).context = .pending deadline →
        zoneSearch s.tables.zones (s.record n).zoneHead (rawNote (pitchOf s.tables.device report.period)) = some z →
        exec (.resetTracking tag order) s = .next tracking) ∧
    (s.synth.clock = .present →
      (∀ scope : Byte, scope ≠ 1 → scope ≠ 2 → s.request 0x27 [tag, scope] order = s.answered 0x27 tag 6 []) ∧
      (∀ body, body.length ≠ 1 → s.request 0x27 (tag :: body) order = s.answered 0x27 tag 5 []) ∧
      s.request 0x27 [] order = s.answered 0x27 0 5 [])

end
end

