-- ==== Sys2Proof/Laws/State.lean ====
section
/-! SUPPORT. Laws of the state: reading one of six after a write, and one lemma per field per named update. -/

namespace Sys2Proof

/-! ### One of six -/

@[simp] theorem Six.get_set_self {α : Type} (v : Six α) (n : StringNo) (a : α) : (v.set n a).get n = a := by
  cases n <;> rfl

theorem Six.get_set_of_ne {α : Type} (v : Six α) {n m : StringNo} (a : α) (h : m ≠ n) : (v.set n a).get m = v.get m := by
  cases n <;> cases m <;> first | rfl | exact absurd rfl h

theorem Six.get_set {α : Type} (v : Six α) (n m : StringNo) (a : α) :
    (v.set n a).get m = if m = n then a else v.get m := by
  split
  · next h => subst h; simp
  · next h => exact Six.get_set_of_ne v a h

@[simp] theorem Six.set_get {α : Type} (v : Six α) (n : StringNo) : v.set n (v.get n) = v := by
  cases n <;> rfl

@[simp] theorem Six.set_set {α : Type} (v : Six α) (n : StringNo) (a b : α) : (v.set n a).set n b = v.set n b := by
  cases n <;> rfl

@[simp] theorem Six.get_ofFn {α : Type} (f : StringNo → α) (n : StringNo) : (Six.ofFn f).get n = f n := by
  cases n <;> rfl

@[simp] theorem Six.get_same {α : Type} (a : α) (n : StringNo) : (Six.same a).get n = a := by
  cases n <;> rfl

theorem Six.ext_get {α : Type} {v w : Six α} (h : ∀ n, v.get n = w.get n) : v = w := by
  cases v; cases w
  have h1 := h .s1; have h2 := h .s2; have h3 := h .s3; have h4 := h .s4; have h5 := h .s5; have h6 := h .s6
  simp_all [Six.get]

@[simp] theorem Six.ofFn_get {α : Type} (v : Six α) : (Six.ofFn fun n => v.get n) = v := by
  cases v; rfl

theorem StringNo.mem_all (n : StringNo) : n ∈ StringNo.all := by
  cases n <;> decide

namespace Machine

/-! ### One string's unit replaced -/

@[simp] theorem State.setUnit_tables (s : State) (n : StringNo) (u : StringUnit) : (s.setUnit n u).tables = s.tables := rfl
@[simp] theorem State.setUnit_index (s : State) (n : StringNo) (u : StringUnit) : (s.setUnit n u).index = s.index := rfl
@[simp] theorem State.setUnit_store (s : State) (n : StringNo) (u : StringUnit) : (s.setUnit n u).store = s.store := rfl
@[simp] theorem State.setUnit_inProcess (s : State) (n : StringNo) (u : StringUnit) : (s.setUnit n u).inProcess = s.inProcess := rfl
@[simp] theorem State.setUnit_pickup (s : State) (n : StringNo) (u : StringUnit) : (s.setUnit n u).pickup = s.pickup := rfl
@[simp] theorem State.setUnit_synth (s : State) (n : StringNo) (u : StringUnit) : (s.setUnit n u).synth = s.synth := rfl
@[simp] theorem State.setUnit_tx (s : State) (n : StringNo) (u : StringUnit) : (s.setUnit n u).tx = s.tx := rfl
@[simp] theorem State.setUnit_relayUp (s : State) (n : StringNo) (u : StringUnit) : (s.setUnit n u).relayUp = s.relayUp := rfl
@[simp] theorem State.setUnit_relayDown (s : State) (n : StringNo) (u : StringUnit) : (s.setUnit n u).relayDown = s.relayDown := rfl
@[simp] theorem State.setUnit_answers (s : State) (n : StringNo) (u : StringUnit) : (s.setUnit n u).answers = s.answers := rfl
@[simp] theorem State.setUnit_link (s : State) (n : StringNo) (u : StringUnit) : (s.setUnit n u).link = s.link := rfl
@[simp] theorem State.setUnit_pickupOut (s : State) (n : StringNo) (u : StringUnit) : (s.setUnit n u).pickupOut = s.pickupOut := rfl
@[simp] theorem State.setUnit_synthOut (s : State) (n : StringNo) (u : StringUnit) : (s.setUnit n u).synthOut = s.synthOut := rfl
@[simp] theorem State.setUnit_drawn (s : State) (n : StringNo) (u : StringUnit) : (s.setUnit n u).drawn = s.drawn := rfl
@[simp] theorem State.setUnit_pending (s : State) (n : StringNo) (u : StringUnit) : (s.setUnit n u).pending = s.pending := rfl
@[simp] theorem State.setUnit_units (s : State) (n : StringNo) (u : StringUnit) :
    (s.setUnit n u).units = s.units.set n u := rfl

@[simp] theorem State.unit_setUnit_self (s : State) (n : StringNo) (u : StringUnit) : (s.setUnit n u).unit n = u :=
  Six.get_set_self _ _ _

theorem State.unit_setUnit_of_ne (s : State) {n m : StringNo} (u : StringUnit) (h : m ≠ n) :
    (s.setUnit n u).unit m = s.unit m := Six.get_set_of_ne _ _ h

theorem State.unit_setUnit (s : State) (n m : StringNo) (u : StringUnit) :
    (s.setUnit n u).unit m = if m = n then u else s.unit m := Six.get_set _ _ _ _

@[simp] theorem State.setUnit_unit (s : State) (n : StringNo) : s.setUnit n (s.unit n) = s := by
  simp [State.setUnit, State.unit]

@[simp] theorem State.setUnit_setUnit (s : State) (n : StringNo) (u w : StringUnit) :
    (s.setUnit n u).setUnit n w = s.setUnit n w := by
  simp [State.setUnit]

@[simp] theorem State.record_setUnit (s : State) (n m : StringNo) (u : StringUnit) :
    (s.setUnit n u).record m = s.record m := rfl

/-! ### One string's unit changed -/

@[simp] theorem State.modUnit_tables (s : State) (n : StringNo) (g : StringUnit → StringUnit) : (s.modUnit n g).tables = s.tables := rfl
@[simp] theorem State.modUnit_index (s : State) (n : StringNo) (g : StringUnit → StringUnit) : (s.modUnit n g).index = s.index := rfl
@[simp] theorem State.modUnit_store (s : State) (n : StringNo) (g : StringUnit → StringUnit) : (s.modUnit n g).store = s.store := rfl
@[simp] theorem State.modUnit_inProcess (s : State) (n : StringNo) (g : StringUnit → StringUnit) : (s.modUnit n g).inProcess = s.inProcess := rfl
@[simp] theorem State.modUnit_pickup (s : State) (n : StringNo) (g : StringUnit → StringUnit) : (s.modUnit n g).pickup = s.pickup := rfl
@[simp] theorem State.modUnit_synth (s : State) (n : StringNo) (g : StringUnit → StringUnit) : (s.modUnit n g).synth = s.synth := rfl
@[simp] theorem State.modUnit_tx (s : State) (n : StringNo) (g : StringUnit → StringUnit) : (s.modUnit n g).tx = s.tx := rfl
@[simp] theorem State.modUnit_relayUp (s : State) (n : StringNo) (g : StringUnit → StringUnit) : (s.modUnit n g).relayUp = s.relayUp := rfl
@[simp] theorem State.modUnit_relayDown (s : State) (n : StringNo) (g : StringUnit → StringUnit) : (s.modUnit n g).relayDown = s.relayDown := rfl
@[simp] theorem State.modUnit_answers (s : State) (n : StringNo) (g : StringUnit → StringUnit) : (s.modUnit n g).answers = s.answers := rfl
@[simp] theorem State.modUnit_link (s : State) (n : StringNo) (g : StringUnit → StringUnit) : (s.modUnit n g).link = s.link := rfl
@[simp] theorem State.modUnit_pickupOut (s : State) (n : StringNo) (g : StringUnit → StringUnit) : (s.modUnit n g).pickupOut = s.pickupOut := rfl
@[simp] theorem State.modUnit_synthOut (s : State) (n : StringNo) (g : StringUnit → StringUnit) : (s.modUnit n g).synthOut = s.synthOut := rfl
@[simp] theorem State.modUnit_drawn (s : State) (n : StringNo) (g : StringUnit → StringUnit) : (s.modUnit n g).drawn = s.drawn := rfl
@[simp] theorem State.modUnit_pending (s : State) (n : StringNo) (g : StringUnit → StringUnit) : (s.modUnit n g).pending = s.pending := rfl
@[simp] theorem State.unit_modUnit_self (s : State) (n : StringNo) (g : StringUnit → StringUnit) :
    (s.modUnit n g).unit n = g (s.unit n) := State.unit_setUnit_self _ _ _

theorem State.unit_modUnit_of_ne (s : State) {n m : StringNo} (g : StringUnit → StringUnit) (h : m ≠ n) :
    (s.modUnit n g).unit m = s.unit m := State.unit_setUnit_of_ne _ _ h

theorem State.unit_modUnit (s : State) (n m : StringNo) (g : StringUnit → StringUnit) :
    (s.modUnit n g).unit m = if m = n then g (s.unit n) else s.unit m := State.unit_setUnit _ _ _ _

@[simp] theorem State.record_modUnit (s : State) (n m : StringNo) (g : StringUnit → StringUnit) :
    (s.modUnit n g).record m = s.record m := rfl

theorem State.modUnit_eq_self (s : State) (n : StringNo) (g : StringUnit → StringUnit) (h : g (s.unit n) = s.unit n) :
    s.modUnit n g = s := by
  simp [State.modUnit, h]

theorem State.unit_eq (s : State) (n : StringNo) : s.unit n = s.units.get n := rfl

/-! ### State.setTx -/

@[simp] theorem State.setTx_tables (s : State) (t : TxState) : (s.setTx t).tables = s.tables := rfl
@[simp] theorem State.setTx_units (s : State) (t : TxState) : (s.setTx t).units = s.units := rfl
@[simp] theorem State.setTx_index (s : State) (t : TxState) : (s.setTx t).index = s.index := rfl
@[simp] theorem State.setTx_store (s : State) (t : TxState) : (s.setTx t).store = s.store := rfl
@[simp] theorem State.setTx_inProcess (s : State) (t : TxState) : (s.setTx t).inProcess = s.inProcess := rfl
@[simp] theorem State.setTx_pickup (s : State) (t : TxState) : (s.setTx t).pickup = s.pickup := rfl
@[simp] theorem State.setTx_synth (s : State) (t : TxState) : (s.setTx t).synth = s.synth := rfl
@[simp] theorem State.setTx_relayUp (s : State) (t : TxState) : (s.setTx t).relayUp = s.relayUp := rfl
@[simp] theorem State.setTx_relayDown (s : State) (t : TxState) : (s.setTx t).relayDown = s.relayDown := rfl
@[simp] theorem State.setTx_answers (s : State) (t : TxState) : (s.setTx t).answers = s.answers := rfl
@[simp] theorem State.setTx_link (s : State) (t : TxState) : (s.setTx t).link = s.link := rfl
@[simp] theorem State.setTx_pickupOut (s : State) (t : TxState) : (s.setTx t).pickupOut = s.pickupOut := rfl
@[simp] theorem State.setTx_synthOut (s : State) (t : TxState) : (s.setTx t).synthOut = s.synthOut := rfl
@[simp] theorem State.setTx_drawn (s : State) (t : TxState) : (s.setTx t).drawn = s.drawn := rfl
@[simp] theorem State.setTx_pending (s : State) (t : TxState) : (s.setTx t).pending = s.pending := rfl

@[simp] theorem State.setTx_state (s : State) (t : TxState) : (s.setTx t).tx.state = t := rfl
@[simp] theorem State.setTx_queuePointer (s : State) (t : TxState) : (s.setTx t).tx.queuePointer = s.tx.queuePointer := rfl
@[simp] theorem State.setTx_slotPointer (s : State) (t : TxState) : (s.setTx t).tx.slotPointer = s.tx.slotPointer := rfl
@[simp] theorem State.setTx_notices (s : State) (t : TxState) : (s.setTx t).tx.notices = s.tx.notices := rfl

/-! ### State.countAbort -/

@[simp] theorem State.countAbort_tables (s : State) : (s.countAbort).tables = s.tables := rfl
@[simp] theorem State.countAbort_units (s : State) : (s.countAbort).units = s.units := rfl
@[simp] theorem State.countAbort_index (s : State) : (s.countAbort).index = s.index := rfl
@[simp] theorem State.countAbort_store (s : State) : (s.countAbort).store = s.store := rfl
@[simp] theorem State.countAbort_inProcess (s : State) : (s.countAbort).inProcess = s.inProcess := rfl
@[simp] theorem State.countAbort_pickup (s : State) : (s.countAbort).pickup = s.pickup := rfl
@[simp] theorem State.countAbort_synth (s : State) : (s.countAbort).synth = s.synth := rfl
@[simp] theorem State.countAbort_tx (s : State) : (s.countAbort).tx = s.tx := rfl
@[simp] theorem State.countAbort_relayUp (s : State) : (s.countAbort).relayUp = s.relayUp := rfl
@[simp] theorem State.countAbort_relayDown (s : State) : (s.countAbort).relayDown = s.relayDown := rfl
@[simp] theorem State.countAbort_answers (s : State) : (s.countAbort).answers = s.answers := rfl
@[simp] theorem State.countAbort_pickupOut (s : State) : (s.countAbort).pickupOut = s.pickupOut := rfl
@[simp] theorem State.countAbort_synthOut (s : State) : (s.countAbort).synthOut = s.synthOut := rfl
@[simp] theorem State.countAbort_drawn (s : State) : (s.countAbort).drawn = s.drawn := rfl
@[simp] theorem State.countAbort_pending (s : State) : (s.countAbort).pending = s.pending := rfl

/-! ### State.countLong -/

@[simp] theorem State.countLong_tables (s : State) : (s.countLong).tables = s.tables := rfl
@[simp] theorem State.countLong_units (s : State) : (s.countLong).units = s.units := rfl
@[simp] theorem State.countLong_index (s : State) : (s.countLong).index = s.index := rfl
@[simp] theorem State.countLong_store (s : State) : (s.countLong).store = s.store := rfl
@[simp] theorem State.countLong_inProcess (s : State) : (s.countLong).inProcess = s.inProcess := rfl
@[simp] theorem State.countLong_pickup (s : State) : (s.countLong).pickup = s.pickup := rfl
@[simp] theorem State.countLong_synth (s : State) : (s.countLong).synth = s.synth := rfl
@[simp] theorem State.countLong_tx (s : State) : (s.countLong).tx = s.tx := rfl
@[simp] theorem State.countLong_relayUp (s : State) : (s.countLong).relayUp = s.relayUp := rfl
@[simp] theorem State.countLong_relayDown (s : State) : (s.countLong).relayDown = s.relayDown := rfl
@[simp] theorem State.countLong_answers (s : State) : (s.countLong).answers = s.answers := rfl
@[simp] theorem State.countLong_pickupOut (s : State) : (s.countLong).pickupOut = s.pickupOut := rfl
@[simp] theorem State.countLong_synthOut (s : State) : (s.countLong).synthOut = s.synthOut := rfl
@[simp] theorem State.countLong_drawn (s : State) : (s.countLong).drawn = s.drawn := rfl
@[simp] theorem State.countLong_pending (s : State) : (s.countLong).pending = s.pending := rfl

/-! ### State.countRelayDrop -/

@[simp] theorem State.countRelayDrop_tables (s : State) : (s.countRelayDrop).tables = s.tables := rfl
@[simp] theorem State.countRelayDrop_units (s : State) : (s.countRelayDrop).units = s.units := rfl
@[simp] theorem State.countRelayDrop_index (s : State) : (s.countRelayDrop).index = s.index := rfl
@[simp] theorem State.countRelayDrop_store (s : State) : (s.countRelayDrop).store = s.store := rfl
@[simp] theorem State.countRelayDrop_inProcess (s : State) : (s.countRelayDrop).inProcess = s.inProcess := rfl
@[simp] theorem State.countRelayDrop_pickup (s : State) : (s.countRelayDrop).pickup = s.pickup := rfl
@[simp] theorem State.countRelayDrop_synth (s : State) : (s.countRelayDrop).synth = s.synth := rfl
@[simp] theorem State.countRelayDrop_tx (s : State) : (s.countRelayDrop).tx = s.tx := rfl
@[simp] theorem State.countRelayDrop_relayUp (s : State) : (s.countRelayDrop).relayUp = s.relayUp := rfl
@[simp] theorem State.countRelayDrop_relayDown (s : State) : (s.countRelayDrop).relayDown = s.relayDown := rfl
@[simp] theorem State.countRelayDrop_answers (s : State) : (s.countRelayDrop).answers = s.answers := rfl
@[simp] theorem State.countRelayDrop_pickupOut (s : State) : (s.countRelayDrop).pickupOut = s.pickupOut := rfl
@[simp] theorem State.countRelayDrop_synthOut (s : State) : (s.countRelayDrop).synthOut = s.synthOut := rfl
@[simp] theorem State.countRelayDrop_drawn (s : State) : (s.countRelayDrop).drawn = s.drawn := rfl
@[simp] theorem State.countRelayDrop_pending (s : State) : (s.countRelayDrop).pending = s.pending := rfl

/-! ### State.dropRequest -/

@[simp] theorem State.dropRequest_tables (s : State) : (s.dropRequest).tables = s.tables := rfl
@[simp] theorem State.dropRequest_units (s : State) : (s.dropRequest).units = s.units := rfl
@[simp] theorem State.dropRequest_index (s : State) : (s.dropRequest).index = s.index := rfl
@[simp] theorem State.dropRequest_store (s : State) : (s.dropRequest).store = s.store := rfl
@[simp] theorem State.dropRequest_inProcess (s : State) : (s.dropRequest).inProcess = s.inProcess := rfl
@[simp] theorem State.dropRequest_pickup (s : State) : (s.dropRequest).pickup = s.pickup := rfl
@[simp] theorem State.dropRequest_synth (s : State) : (s.dropRequest).synth = s.synth := rfl
@[simp] theorem State.dropRequest_tx (s : State) : (s.dropRequest).tx = s.tx := rfl
@[simp] theorem State.dropRequest_relayUp (s : State) : (s.dropRequest).relayUp = s.relayUp := rfl
@[simp] theorem State.dropRequest_relayDown (s : State) : (s.dropRequest).relayDown = s.relayDown := rfl
@[simp] theorem State.dropRequest_answers (s : State) : (s.dropRequest).answers = s.answers := rfl
@[simp] theorem State.dropRequest_pickupOut (s : State) : (s.dropRequest).pickupOut = s.pickupOut := rfl
@[simp] theorem State.dropRequest_synthOut (s : State) : (s.dropRequest).synthOut = s.synthOut := rfl
@[simp] theorem State.dropRequest_drawn (s : State) : (s.dropRequest).drawn = s.drawn := rfl
@[simp] theorem State.dropRequest_pending (s : State) : (s.dropRequest).pending = s.pending := rfl

/-! ### StringUnit.clearContext -/

@[simp] theorem StringUnit.clearContext_state (u : StringUnit) : (u.clearContext).state = u.state := rfl
@[simp] theorem StringUnit.clearContext_env (u : StringUnit) : (u.clearContext).env = u.env := rfl
@[simp] theorem StringUnit.clearContext_damp (u : StringUnit) : (u.clearContext).damp = u.damp := rfl
@[simp] theorem StringUnit.clearContext_tracker (u : StringUnit) : (u.clearContext).tracker = u.tracker := rfl
@[simp] theorem StringUnit.clearContext_monitor (u : StringUnit) : (u.clearContext).monitor = u.monitor := rfl
@[simp] theorem StringUnit.clearContext_queue (u : StringUnit) : (u.clearContext).queue = u.queue := rfl
@[simp] theorem StringUnit.clearContext_glide (u : StringUnit) : (u.clearContext).glide = u.glide := rfl
@[simp] theorem StringUnit.clearContext_press (u : StringUnit) : (u.clearContext).press = u.press := rfl
@[simp] theorem StringUnit.clearContext_group (u : StringUnit) : (u.clearContext).group = u.group := rfl
@[simp] theorem StringUnit.clearContext_refusing (u : StringUnit) : (u.clearContext).refusing = u.refusing := rfl
@[simp] theorem StringUnit.clearContext_counters (u : StringUnit) : (u.clearContext).counters = u.counters := rfl

@[simp] theorem StringUnit.clearContext_context (u : StringUnit) : u.clearContext.context = .empty := rfl
@[simp] theorem StringUnit.clearContext_pitch (u : StringUnit) : u.clearContext.pitch = .none := rfl

/-! ### StringUnit.stopTracker -/

@[simp] theorem StringUnit.stopTracker_state (u : StringUnit) : (u.stopTracker).state = u.state := rfl
@[simp] theorem StringUnit.stopTracker_env (u : StringUnit) : (u.stopTracker).env = u.env := rfl
@[simp] theorem StringUnit.stopTracker_damp (u : StringUnit) : (u.stopTracker).damp = u.damp := rfl
@[simp] theorem StringUnit.stopTracker_context (u : StringUnit) : (u.stopTracker).context = u.context := rfl
@[simp] theorem StringUnit.stopTracker_pitch (u : StringUnit) : (u.stopTracker).pitch = u.pitch := rfl
@[simp] theorem StringUnit.stopTracker_monitor (u : StringUnit) : (u.stopTracker).monitor = u.monitor := rfl
@[simp] theorem StringUnit.stopTracker_queue (u : StringUnit) : (u.stopTracker).queue = u.queue := rfl
@[simp] theorem StringUnit.stopTracker_glide (u : StringUnit) : (u.stopTracker).glide = u.glide := rfl
@[simp] theorem StringUnit.stopTracker_press (u : StringUnit) : (u.stopTracker).press = u.press := rfl
@[simp] theorem StringUnit.stopTracker_group (u : StringUnit) : (u.stopTracker).group = u.group := rfl
@[simp] theorem StringUnit.stopTracker_refusing (u : StringUnit) : (u.stopTracker).refusing = u.refusing := rfl
@[simp] theorem StringUnit.stopTracker_counters (u : StringUnit) : (u.stopTracker).counters = u.counters := rfl
@[simp] theorem StringUnit.stopTracker_due (u : StringUnit) : (u.stopTracker).due = u.due := rfl

@[simp] theorem StringUnit.stopTracker_tracker (u : StringUnit) : u.stopTracker.tracker = .fresh .stopped := rfl

/-! ### StringUnit.flush -/

@[simp] theorem StringUnit.flush_state (u : StringUnit) : (u.flush).state = u.state := rfl
@[simp] theorem StringUnit.flush_env (u : StringUnit) : (u.flush).env = u.env := rfl
@[simp] theorem StringUnit.flush_damp (u : StringUnit) : (u.flush).damp = u.damp := rfl
@[simp] theorem StringUnit.flush_tracker (u : StringUnit) : (u.flush).tracker = u.tracker := rfl
@[simp] theorem StringUnit.flush_context (u : StringUnit) : (u.flush).context = u.context := rfl
@[simp] theorem StringUnit.flush_pitch (u : StringUnit) : (u.flush).pitch = u.pitch := rfl
@[simp] theorem StringUnit.flush_monitor (u : StringUnit) : (u.flush).monitor = u.monitor := rfl
@[simp] theorem StringUnit.flush_group (u : StringUnit) : (u.flush).group = u.group := rfl
@[simp] theorem StringUnit.flush_refusing (u : StringUnit) : (u.flush).refusing = u.refusing := rfl
@[simp] theorem StringUnit.flush_counters (u : StringUnit) : (u.flush).counters = u.counters := rfl
@[simp] theorem StringUnit.flush_due (u : StringUnit) : (u.flush).due = u.due := rfl

@[simp] theorem StringUnit.flush_queue (u : StringUnit) : u.flush.queue = [] := rfl
@[simp] theorem StringUnit.flush_glide (u : StringUnit) : u.flush.glide = none := rfl
@[simp] theorem StringUnit.flush_press (u : StringUnit) : u.flush.press = none := rfl

/-! ### StringUnit.placeLift -/

@[simp] theorem StringUnit.placeLift_state (u : StringUnit) (i : Index) (c : LiftCause) : (u.placeLift i c).state = u.state := rfl
@[simp] theorem StringUnit.placeLift_env (u : StringUnit) (i : Index) (c : LiftCause) : (u.placeLift i c).env = u.env := rfl
@[simp] theorem StringUnit.placeLift_damp (u : StringUnit) (i : Index) (c : LiftCause) : (u.placeLift i c).damp = u.damp := rfl
@[simp] theorem StringUnit.placeLift_tracker (u : StringUnit) (i : Index) (c : LiftCause) : (u.placeLift i c).tracker = u.tracker := rfl
@[simp] theorem StringUnit.placeLift_context (u : StringUnit) (i : Index) (c : LiftCause) : (u.placeLift i c).context = u.context := rfl
@[simp] theorem StringUnit.placeLift_pitch (u : StringUnit) (i : Index) (c : LiftCause) : (u.placeLift i c).pitch = u.pitch := rfl
@[simp] theorem StringUnit.placeLift_monitor (u : StringUnit) (i : Index) (c : LiftCause) : (u.placeLift i c).monitor = u.monitor := rfl
@[simp] theorem StringUnit.placeLift_group (u : StringUnit) (i : Index) (c : LiftCause) : (u.placeLift i c).group = u.group := rfl
@[simp] theorem StringUnit.placeLift_refusing (u : StringUnit) (i : Index) (c : LiftCause) : (u.placeLift i c).refusing = u.refusing := rfl
@[simp] theorem StringUnit.placeLift_counters (u : StringUnit) (i : Index) (c : LiftCause) : (u.placeLift i c).counters = u.counters := rfl
@[simp] theorem StringUnit.placeLift_due (u : StringUnit) (i : Index) (c : LiftCause) : (u.placeLift i c).due = u.due := rfl

@[simp] theorem StringUnit.placeLift_queue (u : StringUnit) (i : Index) (c : LiftCause) : (u.placeLift i c).queue = [.lift i c] := rfl
@[simp] theorem StringUnit.placeLift_glide (u : StringUnit) (i : Index) (c : LiftCause) : (u.placeLift i c).glide = none := rfl
@[simp] theorem StringUnit.placeLift_press (u : StringUnit) (i : Index) (c : LiftCause) : (u.placeLift i c).press = none := rfl

/-! ### StringUnit.releaseDue -/

@[simp] theorem StringUnit.releaseDue_state (u : StringUnit) (i : Index) : (u.releaseDue i).state = u.state := rfl
@[simp] theorem StringUnit.releaseDue_env (u : StringUnit) (i : Index) : (u.releaseDue i).env = u.env := rfl
@[simp] theorem StringUnit.releaseDue_damp (u : StringUnit) (i : Index) : (u.releaseDue i).damp = u.damp := rfl
@[simp] theorem StringUnit.releaseDue_tracker (u : StringUnit) (i : Index) : (u.releaseDue i).tracker = u.tracker := rfl
@[simp] theorem StringUnit.releaseDue_context (u : StringUnit) (i : Index) : (u.releaseDue i).context = u.context := rfl
@[simp] theorem StringUnit.releaseDue_pitch (u : StringUnit) (i : Index) : (u.releaseDue i).pitch = u.pitch := rfl
@[simp] theorem StringUnit.releaseDue_monitor (u : StringUnit) (i : Index) : (u.releaseDue i).monitor = u.monitor := rfl
@[simp] theorem StringUnit.releaseDue_queue (u : StringUnit) (i : Index) : (u.releaseDue i).queue = u.queue := rfl
@[simp] theorem StringUnit.releaseDue_glide (u : StringUnit) (i : Index) : (u.releaseDue i).glide = u.glide := rfl
@[simp] theorem StringUnit.releaseDue_press (u : StringUnit) (i : Index) : (u.releaseDue i).press = u.press := rfl
@[simp] theorem StringUnit.releaseDue_group (u : StringUnit) (i : Index) : (u.releaseDue i).group = u.group := rfl
@[simp] theorem StringUnit.releaseDue_refusing (u : StringUnit) (i : Index) : (u.releaseDue i).refusing = u.refusing := rfl
@[simp] theorem StringUnit.releaseDue_counters (u : StringUnit) (i : Index) : (u.releaseDue i).counters = u.counters := rfl

/-! ### StringUnit.settleIn -/

@[simp] theorem StringUnit.settleIn_damp (u : StringUnit) (st : StringState) : (u.settleIn st).damp = u.damp := rfl
@[simp] theorem StringUnit.settleIn_context (u : StringUnit) (st : StringState) : (u.settleIn st).context = u.context := rfl
@[simp] theorem StringUnit.settleIn_pitch (u : StringUnit) (st : StringState) : (u.settleIn st).pitch = u.pitch := rfl
@[simp] theorem StringUnit.settleIn_monitor (u : StringUnit) (st : StringState) : (u.settleIn st).monitor = u.monitor := rfl
@[simp] theorem StringUnit.settleIn_queue (u : StringUnit) (st : StringState) : (u.settleIn st).queue = u.queue := rfl
@[simp] theorem StringUnit.settleIn_glide (u : StringUnit) (st : StringState) : (u.settleIn st).glide = u.glide := rfl
@[simp] theorem StringUnit.settleIn_press (u : StringUnit) (st : StringState) : (u.settleIn st).press = u.press := rfl
@[simp] theorem StringUnit.settleIn_group (u : StringUnit) (st : StringState) : (u.settleIn st).group = u.group := rfl
@[simp] theorem StringUnit.settleIn_refusing (u : StringUnit) (st : StringState) : (u.settleIn st).refusing = u.refusing := rfl
@[simp] theorem StringUnit.settleIn_counters (u : StringUnit) (st : StringState) : (u.settleIn st).counters = u.counters := rfl
@[simp] theorem StringUnit.settleIn_due (u : StringUnit) (st : StringState) : (u.settleIn st).due = u.due := rfl

@[simp] theorem StringUnit.settleIn_state (u : StringUnit) (st : StringState) : (u.settleIn st).state = st := rfl
@[simp] theorem StringUnit.settleIn_env (u : StringUnit) (st : StringState) : (u.settleIn st).env = u.env.quiet := rfl
@[simp] theorem StringUnit.settleIn_tracker (u : StringUnit) (st : StringState) : (u.settleIn st).tracker = .fresh .stopped := rfl

/-! ### StringUnit.silenceIn -/

@[simp] theorem StringUnit.silenceIn_context (u : StringUnit) (st : StringState) : (u.silenceIn st).context = u.context := rfl
@[simp] theorem StringUnit.silenceIn_pitch (u : StringUnit) (st : StringState) : (u.silenceIn st).pitch = u.pitch := rfl
@[simp] theorem StringUnit.silenceIn_monitor (u : StringUnit) (st : StringState) : (u.silenceIn st).monitor = u.monitor := rfl
@[simp] theorem StringUnit.silenceIn_queue (u : StringUnit) (st : StringState) : (u.silenceIn st).queue = u.queue := rfl
@[simp] theorem StringUnit.silenceIn_glide (u : StringUnit) (st : StringState) : (u.silenceIn st).glide = u.glide := rfl
@[simp] theorem StringUnit.silenceIn_press (u : StringUnit) (st : StringState) : (u.silenceIn st).press = u.press := rfl
@[simp] theorem StringUnit.silenceIn_group (u : StringUnit) (st : StringState) : (u.silenceIn st).group = u.group := rfl
@[simp] theorem StringUnit.silenceIn_refusing (u : StringUnit) (st : StringState) : (u.silenceIn st).refusing = u.refusing := rfl
@[simp] theorem StringUnit.silenceIn_counters (u : StringUnit) (st : StringState) : (u.silenceIn st).counters = u.counters := rfl
@[simp] theorem StringUnit.silenceIn_due (u : StringUnit) (st : StringState) : (u.silenceIn st).due = u.due := rfl

@[simp] theorem StringUnit.silenceIn_state (u : StringUnit) (st : StringState) : (u.silenceIn st).state = st := rfl
@[simp] theorem StringUnit.silenceIn_env (u : StringUnit) (st : StringState) : (u.silenceIn st).env = .zero := rfl
@[simp] theorem StringUnit.silenceIn_tracker (u : StringUnit) (st : StringState) : (u.silenceIn st).tracker = .fresh .stopped := rfl
@[simp] theorem StringUnit.silenceIn_damp (u : StringUnit) (st : StringState) : (u.silenceIn st).damp = 0 := rfl

/-! ### Tracker time (R37) -/

@[simp] theorem Instant.exact_of (e : Nat) : (Instant.of e).exact = e := by
  simp only [Instant.of, Instant.exact]; omega
theorem Instant.of_ticks_lt (e : Nat) : (Instant.of e).ticks < 16777216 := Nat.mod_lt _ (by decide)
@[simp] theorem Tracker.taken_setTaken (n : Nat) (t : Tracker) : (t.setTaken n).taken = n := by
  simp only [Tracker.taken, Tracker.setTaken]; omega
theorem Tracker.setTaken_samples_lt (n : Nat) (t : Tracker) : (t.setTaken n).samples < 1048576 := Nat.mod_lt _ (by decide)

/-! ### A reset's parts (R56, R127) -/

@[simp] theorem StringUnit.dropReports_report (u : StringUnit) : u.dropReports.due.report = none := rfl
@[simp] theorem StringUnit.dropReports_lock (u : StringUnit) : u.dropReports.due.lock = none := rfl
@[simp] theorem StringUnit.dropReports_state (u : StringUnit) : u.dropReports.state = u.state := rfl
@[simp] theorem StringUnit.dropReports_env (u : StringUnit) : u.dropReports.env = u.env := rfl
@[simp] theorem StringUnit.dropReports_tracker (u : StringUnit) : u.dropReports.tracker = u.tracker := rfl
@[simp] theorem StringUnit.dropReports_context (u : StringUnit) : u.dropReports.context = u.context := rfl
@[simp] theorem StringUnit.dropReports_pitch (u : StringUnit) : u.dropReports.pitch = u.pitch := rfl
@[simp] theorem StringUnit.dropReports_monitor (u : StringUnit) : u.dropReports.monitor = u.monitor := rfl
@[simp] theorem StringUnit.dropReports_queue (u : StringUnit) : u.dropReports.queue = u.queue := rfl
@[simp] theorem StringUnit.dropReports_refusing (u : StringUnit) : u.dropReports.refusing = u.refusing := rfl
@[simp] theorem StringUnit.dropReports_group (u : StringUnit) : u.dropReports.group = u.group := rfl
@[simp] theorem StringUnit.dropReports_counters (u : StringUnit) : u.dropReports.counters = u.counters := rfl
@[simp] theorem resetString_refusing (full : Bool) (u : StringUnit) : (resetString full u).refusing = false := rfl
@[simp] theorem resetString_due (full : Bool) (u : StringUnit) : (resetString full u).due = .none := rfl
@[simp] theorem resetString_context (full : Bool) (u : StringUnit) : (resetString full u).context = .empty := rfl
@[simp] theorem resetString_queue (full : Bool) (u : StringUnit) : (resetString full u).queue = u.queue := rfl
@[simp] theorem resetString_group (full : Bool) (u : StringUnit) : (resetString full u).group = u.group := rfl
@[simp] theorem resetString_counters (full : Bool) (u : StringUnit) : (resetString full u).counters = u.counters := rfl

/-- The string queue and slots after a reset's flush: a RESET LIFT for an open group, no other record, no value, and every offer
refused (R127). -/
theorem resetQueue_eq (stamp : Index) (u : StringUnit) :
    resetQueue stamp u =
      { u with queue := if u.group.isSome then [.lift stamp .reset] else [], glide := none, press := none, refusing := true } := by
  unfold resetQueue
  cases h : u.group <;> simp [StringUnit.flush, StringUnit.placeLift, h]

end Machine
end Sys2Proof
end

