-- ==== Sys2Proof/Laws/Ops.lean ====
section
/-! SUPPORT. What each shared operation can do, said once, and what it leaves alone. -/

namespace Sys2Proof.Machine

/-! ### Notices (R117) -/

/-- Everything that offering a notice can do. -/
theorem State.offerNotice_cases (s : State) (notice : Notice) :
    (s.tables.device.enables notice = false ∧ s.offerNotice notice = s) ∨
    (s.tables.device.enables notice = true ∧ s.tx.notices.length ≤ 7 ∧
      s.offerNotice notice = { s with tx := { s.tx with notices := s.tx.notices ++ [notice] } }) ∨
    (s.tables.device.enables notice = true ∧ 8 ≤ s.tx.notices.length ∧
      s.offerNotice notice = { s with link := { s.link with noticesLost := bump s.link.noticesLost } }) := by
  unfold State.offerNotice
  split
  · split
    · exact .inr (.inl ⟨‹_›, ‹_›, rfl⟩)
    · exact .inr (.inr ⟨‹_›, by omega, rfl⟩)
  · exact .inl ⟨eq_false_of_ne_true ‹_›, rfl⟩
@[simp] theorem State.offerNotice_tables (s : State) (notice : Notice) : (s.offerNotice notice).tables = s.tables := by
  unfold State.offerNotice; split <;> (try split) <;> rfl
@[simp] theorem State.offerNotice_units (s : State) (notice : Notice) : (s.offerNotice notice).units = s.units := by
  unfold State.offerNotice; split <;> (try split) <;> rfl
@[simp] theorem State.offerNotice_index (s : State) (notice : Notice) : (s.offerNotice notice).index = s.index := by
  unfold State.offerNotice; split <;> (try split) <;> rfl
@[simp] theorem State.offerNotice_store (s : State) (notice : Notice) : (s.offerNotice notice).store = s.store := by
  unfold State.offerNotice; split <;> (try split) <;> rfl
@[simp] theorem State.offerNotice_inProcess (s : State) (notice : Notice) : (s.offerNotice notice).inProcess = s.inProcess := by
  unfold State.offerNotice; split <;> (try split) <;> rfl
@[simp] theorem State.offerNotice_pickup (s : State) (notice : Notice) : (s.offerNotice notice).pickup = s.pickup := by
  unfold State.offerNotice; split <;> (try split) <;> rfl
@[simp] theorem State.offerNotice_synth (s : State) (notice : Notice) : (s.offerNotice notice).synth = s.synth := by
  unfold State.offerNotice; split <;> (try split) <;> rfl
@[simp] theorem State.offerNotice_relayUp (s : State) (notice : Notice) : (s.offerNotice notice).relayUp = s.relayUp := by
  unfold State.offerNotice; split <;> (try split) <;> rfl
@[simp] theorem State.offerNotice_relayDown (s : State) (notice : Notice) : (s.offerNotice notice).relayDown = s.relayDown := by
  unfold State.offerNotice; split <;> (try split) <;> rfl
@[simp] theorem State.offerNotice_answers (s : State) (notice : Notice) : (s.offerNotice notice).answers = s.answers := by
  unfold State.offerNotice; split <;> (try split) <;> rfl
@[simp] theorem State.offerNotice_pickupOut (s : State) (notice : Notice) : (s.offerNotice notice).pickupOut = s.pickupOut := by
  unfold State.offerNotice; split <;> (try split) <;> rfl
@[simp] theorem State.offerNotice_synthOut (s : State) (notice : Notice) : (s.offerNotice notice).synthOut = s.synthOut := by
  unfold State.offerNotice; split <;> (try split) <;> rfl
@[simp] theorem State.offerNotice_drawn (s : State) (notice : Notice) : (s.offerNotice notice).drawn = s.drawn := by
  unfold State.offerNotice; split <;> (try split) <;> rfl
@[simp] theorem State.offerNotice_pending (s : State) (notice : Notice) : (s.offerNotice notice).pending = s.pending := by
  unfold State.offerNotice; split <;> (try split) <;> rfl
@[simp] theorem State.offerNotice_tx_state (s : State) (notice : Notice) : (s.offerNotice notice).tx.state = s.tx.state := by
  unfold State.offerNotice; split <;> (try split) <;> rfl
@[simp] theorem State.offerNotice_tx_queuePointer (s : State) (notice : Notice) : (s.offerNotice notice).tx.queuePointer = s.tx.queuePointer := by
  unfold State.offerNotice; split <;> (try split) <;> rfl
@[simp] theorem State.offerNotice_tx_slotPointer (s : State) (notice : Notice) : (s.offerNotice notice).tx.slotPointer = s.tx.slotPointer := by
  unfold State.offerNotice; split <;> (try split) <;> rfl
@[simp] theorem State.unit_offerNotice (s : State) (notice : Notice) (n : StringNo) :
    (s.offerNotice notice).unit n = s.unit n := by simp [State.unit]

@[simp] theorem State.record_offerNotice (s : State) (notice : Notice) (n : StringNo) :
    (s.offerNotice notice).record n = s.record n := by simp [State.record]

/-! ### Queue offers (R108 to R111) -/

/-- Everything that offering a STRIKE can do. -/
theorem offerStrike_cases (mode : OutputMode) (record : NoteRecord) (u : StringUnit) :
    (u.accepts mode = false ∧ offerStrike mode record u = (u, false)) ∨
    (u.accepts mode ≠ false ∧ u.queue.length ≤ 6 ∧ offerStrike mode record u = ({ u with queue := u.queue ++ [record] }, true)) ∨
    (u.accepts mode ≠ false ∧ 7 ≤ u.queue.length ∧
      offerStrike mode record u = ({ u with counters := { u.counters with lost := bump u.counters.lost } }, false)) := by
  unfold offerStrike
  split
  · exact .inl ⟨‹_›, rfl⟩
  · split
    · exact .inr (.inl ⟨‹_›, ‹_›, rfl⟩)
    · exact .inr (.inr ⟨‹_›, by omega, rfl⟩)

/-- Everything that offering a SHIFT can do. -/
theorem offerShift_cases (mode : OutputMode) (channel note : Nat) (stamp : Index) (correction : Bool) (u : StringUnit) :
    (u.accepts mode = false ∧ offerShift mode channel note stamp correction u = u) ∨
    (u.accepts mode ≠ false ∧ u.queue.length ≤ 6 ∧ offerShift mode channel note stamp correction u =
      { u with queue := u.queue ++ [.shift channel note stamp correction false] }) ∨
    (u.accepts mode ≠ false ∧ u.queue.length = 7 ∧ ∃ queue, mergeQueue note correction u.queue = some queue ∧
      offerShift mode channel note stamp correction u =
        { u with queue := queue, counters := { u.counters with merged := bump u.counters.merged } }) ∨
    (u.accepts mode ≠ false ∧ 7 ≤ u.queue.length ∧ (u.queue.length = 7 → mergeQueue note correction u.queue = none) ∧
      offerShift mode channel note stamp correction u = dropShift u) := by
  unfold offerShift
  split
  · exact .inl ⟨‹_›, rfl⟩
  · split
    · exact .inr (.inl ⟨‹_›, ‹_›, rfl⟩)
    · split
      · split
        · exact .inr (.inr (.inl ⟨‹_›, ‹_›, _, ‹_›, rfl⟩))
        · exact .inr (.inr (.inr ⟨‹_›, by omega, fun _ => ‹_›, rfl⟩))
      · exact .inr (.inr (.inr ⟨‹_›, by omega, fun h => absurd h ‹_›, rfl⟩))

/-- Everything that offering a LIFT can do. -/
theorem offerLift_cases (mode : OutputMode) (stamp : Index) (cause : LiftCause) (u : StringUnit) :
    ((u.accepts mode = false ∨ 8 ≤ u.queue.length) ∧ offerLift mode stamp cause u = u) ∨
    (u.accepts mode ≠ false ∧ u.queue.length ≤ 7 ∧ offerLift mode stamp cause u =
      { u with queue := u.queue ++ [.lift stamp cause], glide := none, press := none }) := by
  unfold offerLift
  split
  · exact .inl ⟨.inl ‹_›, rfl⟩
  · split
    · exact .inr ⟨‹_›, ‹_›, rfl⟩
    · exact .inl ⟨.inr (by omega), rfl⟩

@[simp] theorem offerStrike_state (mode : OutputMode) (record : NoteRecord) (u : StringUnit) :
    (offerStrike mode record u).1.state = u.state := by
  unfold offerStrike; split <;> (try split) <;> rfl
@[simp] theorem offerShift_state (mode : OutputMode) (channel note : Nat) (stamp : Index) (correction : Bool) (u : StringUnit) :
    (offerShift mode channel note stamp correction u).state = u.state := by
  unfold offerShift dropShift; split <;> (try split) <;> (try split) <;> (try split) <;> rfl
@[simp] theorem offerLift_state (mode : OutputMode) (stamp : Index) (cause : LiftCause) (u : StringUnit) :
    (offerLift mode stamp cause u).state = u.state := by
  unfold offerLift; split <;> (try split) <;> rfl
@[simp] theorem offerGlide_state (mode : OutputMode) (g : Glide) (u : StringUnit) :
    (offerGlide mode g u).state = u.state := by
  unfold offerGlide; split <;> rfl
@[simp] theorem offerPress_state (mode : OutputMode) (p : Press) (u : StringUnit) :
    (offerPress mode p u).state = u.state := by
  unfold offerPress; split <;> rfl
@[simp] theorem glideDecision_state (r : StringRecord) (stamp : Index) (u : StringUnit) :
    (glideDecision r stamp u).state = u.state := by
  unfold glideDecision; repeat' split
  all_goals first | rfl | simp
@[simp] theorem pressDecision_state (r : StringRecord) (level : Nat) (stamp : Index) (u : StringUnit) :
    (pressDecision r level stamp u).state = u.state := by
  unfold pressDecision; repeat' split
  all_goals first | rfl | simp
@[simp] theorem offerStrike_env (mode : OutputMode) (record : NoteRecord) (u : StringUnit) :
    (offerStrike mode record u).1.env = u.env := by
  unfold offerStrike; split <;> (try split) <;> rfl
@[simp] theorem offerShift_env (mode : OutputMode) (channel note : Nat) (stamp : Index) (correction : Bool) (u : StringUnit) :
    (offerShift mode channel note stamp correction u).env = u.env := by
  unfold offerShift dropShift; split <;> (try split) <;> (try split) <;> (try split) <;> rfl
@[simp] theorem offerLift_env (mode : OutputMode) (stamp : Index) (cause : LiftCause) (u : StringUnit) :
    (offerLift mode stamp cause u).env = u.env := by
  unfold offerLift; split <;> (try split) <;> rfl
@[simp] theorem offerGlide_env (mode : OutputMode) (g : Glide) (u : StringUnit) :
    (offerGlide mode g u).env = u.env := by
  unfold offerGlide; split <;> rfl
@[simp] theorem offerPress_env (mode : OutputMode) (p : Press) (u : StringUnit) :
    (offerPress mode p u).env = u.env := by
  unfold offerPress; split <;> rfl
@[simp] theorem glideDecision_env (r : StringRecord) (stamp : Index) (u : StringUnit) :
    (glideDecision r stamp u).env = u.env := by
  unfold glideDecision; repeat' split
  all_goals first | rfl | simp
@[simp] theorem pressDecision_env (r : StringRecord) (level : Nat) (stamp : Index) (u : StringUnit) :
    (pressDecision r level stamp u).env = u.env := by
  unfold pressDecision; repeat' split
  all_goals first | rfl | simp
@[simp] theorem offerStrike_damp (mode : OutputMode) (record : NoteRecord) (u : StringUnit) :
    (offerStrike mode record u).1.damp = u.damp := by
  unfold offerStrike; split <;> (try split) <;> rfl
@[simp] theorem offerShift_damp (mode : OutputMode) (channel note : Nat) (stamp : Index) (correction : Bool) (u : StringUnit) :
    (offerShift mode channel note stamp correction u).damp = u.damp := by
  unfold offerShift dropShift; split <;> (try split) <;> (try split) <;> (try split) <;> rfl
@[simp] theorem offerLift_damp (mode : OutputMode) (stamp : Index) (cause : LiftCause) (u : StringUnit) :
    (offerLift mode stamp cause u).damp = u.damp := by
  unfold offerLift; split <;> (try split) <;> rfl
@[simp] theorem offerGlide_damp (mode : OutputMode) (g : Glide) (u : StringUnit) :
    (offerGlide mode g u).damp = u.damp := by
  unfold offerGlide; split <;> rfl
@[simp] theorem offerPress_damp (mode : OutputMode) (p : Press) (u : StringUnit) :
    (offerPress mode p u).damp = u.damp := by
  unfold offerPress; split <;> rfl
@[simp] theorem glideDecision_damp (r : StringRecord) (stamp : Index) (u : StringUnit) :
    (glideDecision r stamp u).damp = u.damp := by
  unfold glideDecision; repeat' split
  all_goals first | rfl | simp
@[simp] theorem pressDecision_damp (r : StringRecord) (level : Nat) (stamp : Index) (u : StringUnit) :
    (pressDecision r level stamp u).damp = u.damp := by
  unfold pressDecision; repeat' split
  all_goals first | rfl | simp
@[simp] theorem offerStrike_tracker (mode : OutputMode) (record : NoteRecord) (u : StringUnit) :
    (offerStrike mode record u).1.tracker = u.tracker := by
  unfold offerStrike; split <;> (try split) <;> rfl
@[simp] theorem offerShift_tracker (mode : OutputMode) (channel note : Nat) (stamp : Index) (correction : Bool) (u : StringUnit) :
    (offerShift mode channel note stamp correction u).tracker = u.tracker := by
  unfold offerShift dropShift; split <;> (try split) <;> (try split) <;> (try split) <;> rfl
@[simp] theorem offerLift_tracker (mode : OutputMode) (stamp : Index) (cause : LiftCause) (u : StringUnit) :
    (offerLift mode stamp cause u).tracker = u.tracker := by
  unfold offerLift; split <;> (try split) <;> rfl
@[simp] theorem offerGlide_tracker (mode : OutputMode) (g : Glide) (u : StringUnit) :
    (offerGlide mode g u).tracker = u.tracker := by
  unfold offerGlide; split <;> rfl
@[simp] theorem offerPress_tracker (mode : OutputMode) (p : Press) (u : StringUnit) :
    (offerPress mode p u).tracker = u.tracker := by
  unfold offerPress; split <;> rfl
@[simp] theorem glideDecision_tracker (r : StringRecord) (stamp : Index) (u : StringUnit) :
    (glideDecision r stamp u).tracker = u.tracker := by
  unfold glideDecision; repeat' split
  all_goals first | rfl | simp
@[simp] theorem pressDecision_tracker (r : StringRecord) (level : Nat) (stamp : Index) (u : StringUnit) :
    (pressDecision r level stamp u).tracker = u.tracker := by
  unfold pressDecision; repeat' split
  all_goals first | rfl | simp
@[simp] theorem offerStrike_context (mode : OutputMode) (record : NoteRecord) (u : StringUnit) :
    (offerStrike mode record u).1.context = u.context := by
  unfold offerStrike; split <;> (try split) <;> rfl
@[simp] theorem offerShift_context (mode : OutputMode) (channel note : Nat) (stamp : Index) (correction : Bool) (u : StringUnit) :
    (offerShift mode channel note stamp correction u).context = u.context := by
  unfold offerShift dropShift; split <;> (try split) <;> (try split) <;> (try split) <;> rfl
@[simp] theorem offerLift_context (mode : OutputMode) (stamp : Index) (cause : LiftCause) (u : StringUnit) :
    (offerLift mode stamp cause u).context = u.context := by
  unfold offerLift; split <;> (try split) <;> rfl
@[simp] theorem offerGlide_context (mode : OutputMode) (g : Glide) (u : StringUnit) :
    (offerGlide mode g u).context = u.context := by
  unfold offerGlide; split <;> rfl
@[simp] theorem offerPress_context (mode : OutputMode) (p : Press) (u : StringUnit) :
    (offerPress mode p u).context = u.context := by
  unfold offerPress; split <;> rfl
@[simp] theorem offerStrike_pitch (mode : OutputMode) (record : NoteRecord) (u : StringUnit) :
    (offerStrike mode record u).1.pitch = u.pitch := by
  unfold offerStrike; split <;> (try split) <;> rfl
@[simp] theorem offerShift_pitch (mode : OutputMode) (channel note : Nat) (stamp : Index) (correction : Bool) (u : StringUnit) :
    (offerShift mode channel note stamp correction u).pitch = u.pitch := by
  unfold offerShift dropShift; split <;> (try split) <;> (try split) <;> (try split) <;> rfl
@[simp] theorem offerLift_pitch (mode : OutputMode) (stamp : Index) (cause : LiftCause) (u : StringUnit) :
    (offerLift mode stamp cause u).pitch = u.pitch := by
  unfold offerLift; split <;> (try split) <;> rfl
@[simp] theorem offerGlide_pitch (mode : OutputMode) (g : Glide) (u : StringUnit) :
    (offerGlide mode g u).pitch = u.pitch := by
  unfold offerGlide; split <;> rfl
@[simp] theorem offerPress_pitch (mode : OutputMode) (p : Press) (u : StringUnit) :
    (offerPress mode p u).pitch = u.pitch := by
  unfold offerPress; split <;> rfl
@[simp] theorem glideDecision_pitch (r : StringRecord) (stamp : Index) (u : StringUnit) :
    (glideDecision r stamp u).pitch = u.pitch := by
  unfold glideDecision; repeat' split
  all_goals first | rfl | simp
@[simp] theorem pressDecision_pitch (r : StringRecord) (level : Nat) (stamp : Index) (u : StringUnit) :
    (pressDecision r level stamp u).pitch = u.pitch := by
  unfold pressDecision; repeat' split
  all_goals first | rfl | simp
@[simp] theorem offerStrike_monitor (mode : OutputMode) (record : NoteRecord) (u : StringUnit) :
    (offerStrike mode record u).1.monitor = u.monitor := by
  unfold offerStrike; split <;> (try split) <;> rfl
@[simp] theorem offerShift_monitor (mode : OutputMode) (channel note : Nat) (stamp : Index) (correction : Bool) (u : StringUnit) :
    (offerShift mode channel note stamp correction u).monitor = u.monitor := by
  unfold offerShift dropShift; split <;> (try split) <;> (try split) <;> (try split) <;> rfl
@[simp] theorem offerLift_monitor (mode : OutputMode) (stamp : Index) (cause : LiftCause) (u : StringUnit) :
    (offerLift mode stamp cause u).monitor = u.monitor := by
  unfold offerLift; split <;> (try split) <;> rfl
@[simp] theorem offerGlide_monitor (mode : OutputMode) (g : Glide) (u : StringUnit) :
    (offerGlide mode g u).monitor = u.monitor := by
  unfold offerGlide; split <;> rfl
@[simp] theorem offerPress_monitor (mode : OutputMode) (p : Press) (u : StringUnit) :
    (offerPress mode p u).monitor = u.monitor := by
  unfold offerPress; split <;> rfl
@[simp] theorem glideDecision_monitor (r : StringRecord) (stamp : Index) (u : StringUnit) :
    (glideDecision r stamp u).monitor = u.monitor := by
  unfold glideDecision; repeat' split
  all_goals first | rfl | simp
@[simp] theorem pressDecision_monitor (r : StringRecord) (level : Nat) (stamp : Index) (u : StringUnit) :
    (pressDecision r level stamp u).monitor = u.monitor := by
  unfold pressDecision; repeat' split
  all_goals first | rfl | simp
@[simp] theorem offerGlide_queue (mode : OutputMode) (g : Glide) (u : StringUnit) :
    (offerGlide mode g u).queue = u.queue := by
  unfold offerGlide; split <;> rfl
@[simp] theorem offerPress_queue (mode : OutputMode) (p : Press) (u : StringUnit) :
    (offerPress mode p u).queue = u.queue := by
  unfold offerPress; split <;> rfl
@[simp] theorem glideDecision_queue (r : StringRecord) (stamp : Index) (u : StringUnit) :
    (glideDecision r stamp u).queue = u.queue := by
  unfold glideDecision; repeat' split
  all_goals first | rfl | simp
@[simp] theorem pressDecision_queue (r : StringRecord) (level : Nat) (stamp : Index) (u : StringUnit) :
    (pressDecision r level stamp u).queue = u.queue := by
  unfold pressDecision; repeat' split
  all_goals first | rfl | simp
@[simp] theorem offerStrike_glide (mode : OutputMode) (record : NoteRecord) (u : StringUnit) :
    (offerStrike mode record u).1.glide = u.glide := by
  unfold offerStrike; split <;> (try split) <;> rfl
@[simp] theorem offerShift_glide (mode : OutputMode) (channel note : Nat) (stamp : Index) (correction : Bool) (u : StringUnit) :
    (offerShift mode channel note stamp correction u).glide = u.glide := by
  unfold offerShift dropShift; split <;> (try split) <;> (try split) <;> (try split) <;> rfl
@[simp] theorem offerPress_glide (mode : OutputMode) (p : Press) (u : StringUnit) :
    (offerPress mode p u).glide = u.glide := by
  unfold offerPress; split <;> rfl
@[simp] theorem pressDecision_glide (r : StringRecord) (level : Nat) (stamp : Index) (u : StringUnit) :
    (pressDecision r level stamp u).glide = u.glide := by
  unfold pressDecision; repeat' split
  all_goals first | rfl | simp
@[simp] theorem offerStrike_press (mode : OutputMode) (record : NoteRecord) (u : StringUnit) :
    (offerStrike mode record u).1.press = u.press := by
  unfold offerStrike; split <;> (try split) <;> rfl
@[simp] theorem offerShift_press (mode : OutputMode) (channel note : Nat) (stamp : Index) (correction : Bool) (u : StringUnit) :
    (offerShift mode channel note stamp correction u).press = u.press := by
  unfold offerShift dropShift; split <;> (try split) <;> (try split) <;> (try split) <;> rfl
@[simp] theorem offerGlide_press (mode : OutputMode) (g : Glide) (u : StringUnit) :
    (offerGlide mode g u).press = u.press := by
  unfold offerGlide; split <;> rfl
@[simp] theorem glideDecision_press (r : StringRecord) (stamp : Index) (u : StringUnit) :
    (glideDecision r stamp u).press = u.press := by
  unfold glideDecision; repeat' split
  all_goals first | rfl | simp
@[simp] theorem offerStrike_group (mode : OutputMode) (record : NoteRecord) (u : StringUnit) :
    (offerStrike mode record u).1.group = u.group := by
  unfold offerStrike; split <;> (try split) <;> rfl
@[simp] theorem offerStrike_refusing (mode : OutputMode) (record : NoteRecord) (u : StringUnit) :
    (offerStrike mode record u).1.group = u.group := by
  unfold offerStrike; split <;> (try split) <;> rfl
@[simp] theorem offerShift_group (mode : OutputMode) (channel note : Nat) (stamp : Index) (correction : Bool) (u : StringUnit) :
    (offerShift mode channel note stamp correction u).group = u.group := by
  unfold offerShift dropShift; split <;> (try split) <;> (try split) <;> (try split) <;> rfl
@[simp] theorem offerShift_refusing (mode : OutputMode) (channel note : Nat) (stamp : Index) (correction : Bool) (u : StringUnit) :
    (offerShift mode channel note stamp correction u).refusing = u.refusing := by
  unfold offerShift dropShift; split <;> (try split) <;> (try split) <;> (try split) <;> rfl
@[simp] theorem offerLift_group (mode : OutputMode) (stamp : Index) (cause : LiftCause) (u : StringUnit) :
    (offerLift mode stamp cause u).group = u.group := by
  unfold offerLift; split <;> (try split) <;> rfl
@[simp] theorem offerLift_refusing (mode : OutputMode) (stamp : Index) (cause : LiftCause) (u : StringUnit) :
    (offerLift mode stamp cause u).refusing = u.refusing := by
  unfold offerLift; split <;> (try split) <;> rfl
@[simp] theorem offerGlide_group (mode : OutputMode) (g : Glide) (u : StringUnit) :
    (offerGlide mode g u).group = u.group := by
  unfold offerGlide; split <;> rfl
@[simp] theorem offerGlide_refusing (mode : OutputMode) (g : Glide) (u : StringUnit) :
    (offerGlide mode g u).refusing = u.refusing := by
  unfold offerGlide; split <;> rfl
@[simp] theorem offerPress_group (mode : OutputMode) (p : Press) (u : StringUnit) :
    (offerPress mode p u).group = u.group := by
  unfold offerPress; split <;> rfl
@[simp] theorem offerPress_refusing (mode : OutputMode) (p : Press) (u : StringUnit) :
    (offerPress mode p u).refusing = u.refusing := by
  unfold offerPress; split <;> rfl
@[simp] theorem glideDecision_group (r : StringRecord) (stamp : Index) (u : StringUnit) :
    (glideDecision r stamp u).group = u.group := by
  unfold glideDecision; repeat' split
  all_goals first | rfl | simp
@[simp] theorem glideDecision_refusing (r : StringRecord) (stamp : Index) (u : StringUnit) :
    (glideDecision r stamp u).refusing = u.refusing := by
  unfold glideDecision; repeat' split
  all_goals first | rfl | simp
@[simp] theorem pressDecision_group (r : StringRecord) (level : Nat) (stamp : Index) (u : StringUnit) :
    (pressDecision r level stamp u).group = u.group := by
  unfold pressDecision; repeat' split
  all_goals first | rfl | simp
@[simp] theorem pressDecision_refusing (r : StringRecord) (level : Nat) (stamp : Index) (u : StringUnit) :
    (pressDecision r level stamp u).refusing = u.refusing := by
  unfold pressDecision; repeat' split
  all_goals first | rfl | simp
@[simp] theorem offerLift_counters (mode : OutputMode) (stamp : Index) (cause : LiftCause) (u : StringUnit) :
    (offerLift mode stamp cause u).counters = u.counters := by
  unfold offerLift; split <;> (try split) <;> rfl
@[simp] theorem offerGlide_counters (mode : OutputMode) (g : Glide) (u : StringUnit) :
    (offerGlide mode g u).counters = u.counters := by
  unfold offerGlide; split <;> rfl
@[simp] theorem offerPress_counters (mode : OutputMode) (p : Press) (u : StringUnit) :
    (offerPress mode p u).counters = u.counters := by
  unfold offerPress; split <;> rfl
@[simp] theorem glideDecision_counters (r : StringRecord) (stamp : Index) (u : StringUnit) :
    (glideDecision r stamp u).counters = u.counters := by
  unfold glideDecision; repeat' split
  all_goals first | rfl | simp
@[simp] theorem pressDecision_counters (r : StringRecord) (level : Nat) (stamp : Index) (u : StringUnit) :
    (pressDecision r level stamp u).counters = u.counters := by
  unfold pressDecision; repeat' split
  all_goals first | rfl | simp
@[simp] theorem offerStrike_due (mode : OutputMode) (record : NoteRecord) (u : StringUnit) :
    (offerStrike mode record u).1.due = u.due := by
  unfold offerStrike; split <;> (try split) <;> rfl
@[simp] theorem offerShift_due (mode : OutputMode) (channel note : Nat) (stamp : Index) (correction : Bool) (u : StringUnit) :
    (offerShift mode channel note stamp correction u).due = u.due := by
  unfold offerShift dropShift; split <;> (try split) <;> (try split) <;> (try split) <;> rfl
@[simp] theorem offerLift_due (mode : OutputMode) (stamp : Index) (cause : LiftCause) (u : StringUnit) :
    (offerLift mode stamp cause u).due = u.due := by
  unfold offerLift; split <;> (try split) <;> rfl
@[simp] theorem offerGlide_due (mode : OutputMode) (g : Glide) (u : StringUnit) :
    (offerGlide mode g u).due = u.due := by
  unfold offerGlide; split <;> rfl
@[simp] theorem offerPress_due (mode : OutputMode) (p : Press) (u : StringUnit) :
    (offerPress mode p u).due = u.due := by
  unfold offerPress; split <;> rfl
@[simp] theorem glideDecision_due (r : StringRecord) (stamp : Index) (u : StringUnit) :
    (glideDecision r stamp u).due = u.due := by
  unfold glideDecision; repeat' split
  all_goals first | rfl | simp
@[simp] theorem pressDecision_due (r : StringRecord) (level : Nat) (stamp : Index) (u : StringUnit) :
    (pressDecision r level stamp u).due = u.due := by
  unfold pressDecision; repeat' split
  all_goals first | rfl | simp

/-! ### The end of a note (R101) -/

@[simp] theorem endNote_state (mode : OutputMode) (stamp : Index) (cause : LiftCause) (u : StringUnit) :
    (endNote mode stamp cause u).state = u.state := by
  unfold endNote; split <;> (try split) <;> simp
@[simp] theorem endForced_state (mode : OutputMode) (stamp : Index) (cause : LiftCause) (u : StringUnit) :
    (endForced mode stamp cause u).state = u.state := by
  unfold endForced; split <;> simp
@[simp] theorem endNote_env (mode : OutputMode) (stamp : Index) (cause : LiftCause) (u : StringUnit) :
    (endNote mode stamp cause u).env = u.env := by
  unfold endNote; split <;> (try split) <;> simp
@[simp] theorem endForced_env (mode : OutputMode) (stamp : Index) (cause : LiftCause) (u : StringUnit) :
    (endForced mode stamp cause u).env = u.env := by
  unfold endForced; split <;> simp
@[simp] theorem endNote_damp (mode : OutputMode) (stamp : Index) (cause : LiftCause) (u : StringUnit) :
    (endNote mode stamp cause u).damp = u.damp := by
  unfold endNote; split <;> (try split) <;> simp
@[simp] theorem endForced_damp (mode : OutputMode) (stamp : Index) (cause : LiftCause) (u : StringUnit) :
    (endForced mode stamp cause u).damp = u.damp := by
  unfold endForced; split <;> simp
@[simp] theorem endNote_tracker (mode : OutputMode) (stamp : Index) (cause : LiftCause) (u : StringUnit) :
    (endNote mode stamp cause u).tracker = u.tracker := by
  unfold endNote; split <;> (try split) <;> simp
@[simp] theorem endForced_tracker (mode : OutputMode) (stamp : Index) (cause : LiftCause) (u : StringUnit) :
    (endForced mode stamp cause u).tracker = u.tracker := by
  unfold endForced; split <;> simp
@[simp] theorem endNote_monitor (mode : OutputMode) (stamp : Index) (cause : LiftCause) (u : StringUnit) :
    (endNote mode stamp cause u).monitor = u.monitor := by
  unfold endNote; split <;> (try split) <;> simp
@[simp] theorem endForced_monitor (mode : OutputMode) (stamp : Index) (cause : LiftCause) (u : StringUnit) :
    (endForced mode stamp cause u).monitor = u.monitor := by
  unfold endForced; split <;> simp
@[simp] theorem endNote_group (mode : OutputMode) (stamp : Index) (cause : LiftCause) (u : StringUnit) :
    (endNote mode stamp cause u).group = u.group := by
  unfold endNote; split <;> (try split) <;> simp
@[simp] theorem endNote_refusing (mode : OutputMode) (stamp : Index) (cause : LiftCause) (u : StringUnit) :
    (endNote mode stamp cause u).refusing = u.refusing := by
  unfold endNote; split <;> (try split) <;> simp
@[simp] theorem endForced_group (mode : OutputMode) (stamp : Index) (cause : LiftCause) (u : StringUnit) :
    (endForced mode stamp cause u).group = u.group := by
  unfold endForced; split <;> simp
@[simp] theorem endForced_refusing (mode : OutputMode) (stamp : Index) (cause : LiftCause) (u : StringUnit) :
    (endForced mode stamp cause u).refusing = u.refusing := by
  unfold endForced; split <;> simp
@[simp] theorem endNote_counters (mode : OutputMode) (stamp : Index) (cause : LiftCause) (u : StringUnit) :
    (endNote mode stamp cause u).counters = u.counters := by
  unfold endNote; split <;> (try split) <;> simp
@[simp] theorem endForced_counters (mode : OutputMode) (stamp : Index) (cause : LiftCause) (u : StringUnit) :
    (endForced mode stamp cause u).counters = u.counters := by
  unfold endForced; split <;> simp
@[simp] theorem endNote_context (mode : OutputMode) (stamp : Index) (cause : LiftCause) (u : StringUnit) :
    (endNote mode stamp cause u).context = .empty := by
  unfold endNote; split <;> (try split) <;> simp

@[simp] theorem endNote_pitch (mode : OutputMode) (stamp : Index) (cause : LiftCause) (u : StringUnit) :
    (endNote mode stamp cause u).pitch = .none := by
  unfold endNote; split <;> (try split) <;> simp

/-! ### The tracker's front end (R37, R40 to R43) -/

/-- All that stages 1 to 4 can do (R40, R41, R43): the sample is counted, the value filtered, and a rise gives a zero point. -/
theorem filterSample_cases (r : StringRecord) (y : Int) (t : Tracker) :
    let l := lowPass r.lowPassShift t.l y
    let v := { t.setTaken (t.taken + 1) with l := l, prevL := t.l }
    ((t.l ≤ 0 ∧ 0 < l) ∧
        filterSample r y t = { v with zero := some (.of (zeroPoint (t.taken + 1) t.l l)), zeroSinceArmed := true }) ∨
      (¬ (t.l ≤ 0 ∧ 0 < l) ∧ filterSample r y t = v) := by
  unfold filterSample
  by_cases h : t.l ≤ 0 ∧ 0 < lowPass r.lowPassShift t.l y
  · exact .inl ⟨h, if_pos h⟩
  · exact .inr ⟨h, if_neg h⟩

@[simp] theorem filterSample_l (r : StringRecord) (y : Int) (t : Tracker) :
    (filterSample r y t).l = lowPass r.lowPassShift t.l y := by
  rcases filterSample_cases r y t with ⟨_, h⟩ | ⟨_, h⟩ <;> rw [h]

@[simp] theorem filterSample_prevL (r : StringRecord) (y : Int) (t : Tracker) : (filterSample r y t).prevL = t.l := by
  rcases filterSample_cases r y t with ⟨_, h⟩ | ⟨_, h⟩ <;> rw [h]

@[simp] theorem filterSample_taken (r : StringRecord) (y : Int) (t : Tracker) : (filterSample r y t).taken = t.taken + 1 := by
  rcases filterSample_cases r y t with ⟨_, h⟩ | ⟨_, h⟩ <;> rw [h] <;> simp only [Tracker.taken, Tracker.setTaken] <;> omega

theorem filterSample_samples_lt (r : StringRecord) (y : Int) (t : Tracker) : (filterSample r y t).samples < 1048576 := by
  rcases filterSample_cases r y t with ⟨_, h⟩ | ⟨_, h⟩ <;> rw [h] <;> exact Tracker.setTaken_samples_lt (t.taken + 1) t

end Sys2Proof.Machine
end

