-- ==== Sys2Proof/Laws/Links.lean ====
section
/-! SUPPORT. What the shared operations of the links, the store, the transmitter and the management unit can do, said once. -/

namespace Sys2Proof.Machine

/-! ### Receivers (R162, R165) -/

/-- Everything that judging a frame time can do. -/
theorem Receiver.judge_cases (good : Bool) (r : Receiver) :
    (r.state = .hunt ∧ r.judge good = ({ r with good := if good then r.good + 1 else 0 }, false)) ∨
    (r.state = .sync ∧ good = true ∧ r.judge good = ({ r with bad := 0 }, true)) ∨
    (r.state = .sync ∧ good = false ∧ r.judge good = ({ r with bad := r.bad + 1 }, decide (r.bad + 1 < 3))) := by
  unfold Receiver.judge
  cases h : r.state <;> cases good <;> simp

@[simp] theorem Receiver.judge_state (good : Bool) (r : Receiver) : (r.judge good).1.state = r.state := by
  rcases r.judge_cases good with ⟨_, h⟩ | ⟨_, _, h⟩ | ⟨_, _, h⟩ <;> rw [h]

/-- A frame is taken only in SYNC (R162). -/
theorem Receiver.judge_taken (good : Bool) (r : Receiver) (h : (r.judge good).2 = true) : r.state = .sync := by
  rcases r.judge_cases good with ⟨hs, e⟩ | ⟨hs, _, _⟩ | ⟨hs, _, _⟩
  · rw [e] at h; cases h
  · exact hs
  · exact hs

@[simp] theorem Receiver.huntDue_iff (r : Receiver) : r.huntDue = true ↔ r.state = .sync ∧ 3 ≤ r.bad := by
  simp [Receiver.huntDue]

@[simp] theorem Receiver.syncDue_iff (r : Receiver) : r.syncDue = true ↔ r.state = .hunt ∧ 2 ≤ r.good := by
  simp [Receiver.syncDue]

/-! ### Side-channel receivers (R168 to R170) -/

/-- A side byte leaves an open message of 64 bytes or less (R168, R169). -/
theorem takeSideByte_length (tag : Tag) (b : Byte) (r : SideReceiver) (h : (r.getD []).length ≤ 64) :
    ((takeSideByte tag b r).1.getD []).length ≤ 64 := by
  cases tag <;> cases r <;> simp_all [takeSideByte] <;> split <;> simp <;> omega

/-- A completed message is what stood in the buffer with its LAST byte, and has at most 64 bytes (R169, R170). -/
theorem takeSideByte_complete {tag : Tag} {b : Byte} {r : SideReceiver} {m : List Byte}
    (h : (takeSideByte tag b r).2 = .complete m) :
    tag = .last ∧ ∃ buffer, r = some buffer ∧ m = buffer ++ [b] ∧ m.length ≤ 64 := by
  cases tag <;> cases r <;> simp [takeSideByte] at h
  · split at h <;> simp at h
  · rename_i buffer
    split at h
    · simp at h
    · simp at h
      subst h
      exact ⟨rfl, buffer, rfl, rfl, by simp; omega⟩

/-- Everything that the check of a completed message can do (R169, R170). -/
theorem State.checkMessage_cases (m : List Byte) (s : State) :
    (64 < m.length ∧ s.checkMessage m = (s.countLong, none)) ∨
    (m.length < 4 ∧ s.checkMessage m = ({ s with link := { s.link with short := bump s.link.short } }, none)) ∨
    (4 ≤ m.length ∧ m.length ≤ 64 ∧ crcGood m = true ∧ s.checkMessage m = (s, some m)) ∨
    (4 ≤ m.length ∧ m.length ≤ 64 ∧ crcGood m = false ∧
      s.checkMessage m = ({ s with link := { s.link with badCrc := bump s.link.badCrc } }, none)) := by
  unfold State.checkMessage
  split
  · exact .inl ⟨‹_›, rfl⟩
  · split
    · exact .inr (.inl ⟨‹_›, rfl⟩)
    · split
      · exact .inr (.inr (.inl ⟨by omega, by omega, ‹_›, rfl⟩))
      · exact .inr (.inr (.inr ⟨by omega, by omega, eq_false_of_ne_true ‹_›, rfl⟩))

/-! ### The relay (R173) -/

/-- Everything that offering a message to relay-up can do. -/
theorem State.offerUp_cases (m : List Byte) (s : State) :
    (s.relayUp.length ≤ 1 ∧ s.offerUp m = { s with relayUp := s.relayUp ++ [m] }) ∨
    (2 ≤ s.relayUp.length ∧ s.offerUp m = s.countRelayDrop) := by
  unfold State.offerUp
  split
  · exact .inl ⟨‹_›, rfl⟩
  · exact .inr ⟨by omega, rfl⟩

/-- Everything that offering a message to relay-down can do. -/
theorem State.offerDown_cases (m : List Byte) (s : State) :
    (s.relayDown.length ≤ 1 ∧ s.offerDown m = { s with relayDown := s.relayDown ++ [m] }) ∨
    (2 ≤ s.relayDown.length ∧ s.offerDown m = s.countRelayDrop) := by
  unfold State.offerDown
  split
  · exact .inl ⟨‹_›, rfl⟩
  · exact .inr ⟨by omega, rfl⟩

/-! ### The elastic store (R150 to R154) -/

@[simp] theorem advance_val (p : Fin 32) (k : Nat) : (advance p k).val = (p.val + k) % 32 := rfl

@[simp] theorem retreat_val (p : Fin 32) (k : Nat) : (retreat p k).val = (p.val + 32 - k) % 32 := rfl

/-- Everything that offering a record to the store can do. -/
theorem Store.admit_cases (record : FrameRecord) (st : Store) :
    (st.state = .halted ∧ st.accept record = (st, none)) ∨
    (st.state = .prefill ∧ st.fill = 15 ∧ st.accept record = ({ Store.put record st with state := .flowing }, none)) ∨
    (st.state = .prefill ∧ st.fill ≠ 15 ∧ st.accept record = (Store.put record st, none)) ∨
    (st.state = .flowing ∧ st.fill < 30 ∧ st.accept record = (Store.put record st, none)) ∨
    (st.state = .flowing ∧ 30 ≤ st.fill ∧ st.accept record = (Store.put record st.dropSlip, some (st.fill + 1 - 16))) := by
  unfold Store.accept
  cases h : st.state
  · exact .inl ⟨rfl, rfl⟩
  · by_cases hf : st.fill = 15
    · exact .inr (.inl ⟨rfl, hf, by simp [Store.put, hf]⟩)
    · exact .inr (.inr (.inl ⟨rfl, hf, by simp [Store.put, hf]⟩))
  · by_cases hf : 30 ≤ st.fill
    · exact .inr (.inr (.inr (.inr ⟨rfl, hf, by simp [hf]⟩)))
    · exact .inr (.inr (.inr (.inl ⟨rfl, by omega, by simp [hf]⟩)))

/-- Everything that a read of the store can do. -/
theorem Store.readOut_cases (st : Store) :
    (st.state ≠ .flowing ∧ st.readOut = ⟨st, ⟨Six.same 0, st.held⟩, true, none⟩) ∨
    (st.state = .flowing ∧ 3 ≤ st.fill ∧ st.readOut = ⟨st.take.1, st.take.2, false, none⟩) ∨
    (st.state = .flowing ∧ st.fill ≤ 2 ∧
      st.readOut = ⟨st.repeatSlip.take.1, st.repeatSlip.take.2, false, some (16 - st.fill)⟩) := by
  unfold Store.readOut
  cases h : st.state
  · exact .inl ⟨by simp, rfl⟩
  · exact .inl ⟨by simp, rfl⟩
  · by_cases hf : st.fill ≤ 2
    · exact .inr (.inr ⟨rfl, hf, by simp [hf]⟩)
    · exact .inr (.inl ⟨rfl, by omega, by simp [hf]⟩)

/-- Offering a record changes the store, and with a DROP slip the notices and two counters. -/
theorem State.offerRecord_cases (record : FrameRecord) (s : State) :
    ((s.store.accept record).2 = none ∧ s.offerRecord record = { s with store := (s.store.accept record).1 }) ∨
    (∃ frames, (s.store.accept record).2 = some frames ∧ s.offerRecord record = State.offerNotice
      { s with store := (s.store.accept record).1, link := { s.link with dropSlips := bump s.link.dropSlips } }
      (.slip .drop frames)) := by
  unfold State.offerRecord
  cases h : s.store.accept record with
  | mk st o => cases o with
    | none => exact .inl ⟨rfl, rfl⟩
    | some f => exact .inr ⟨f, rfl, rfl⟩

@[simp] theorem State.offerRecord_store (record : FrameRecord) (s : State) :
    (s.offerRecord record).store = (s.store.accept record).1 := by
  rcases s.offerRecord_cases record with ⟨_, h⟩ | ⟨f, _, h⟩ <;> simp [h]

@[simp] theorem State.offerRecord_units (record : FrameRecord) (s : State) : (s.offerRecord record).units = s.units := by
  rcases s.offerRecord_cases record with ⟨_, h⟩ | ⟨f, _, h⟩ <;> simp [h]

@[simp] theorem State.offerRecord_tables (record : FrameRecord) (s : State) : (s.offerRecord record).tables = s.tables := by
  rcases s.offerRecord_cases record with ⟨_, h⟩ | ⟨f, _, h⟩ <;> simp [h]

@[simp] theorem State.offerRecord_index (record : FrameRecord) (s : State) : (s.offerRecord record).index = s.index := by
  rcases s.offerRecord_cases record with ⟨_, h⟩ | ⟨f, _, h⟩ <;> simp [h]

@[simp] theorem State.offerRecord_pickup (record : FrameRecord) (s : State) : (s.offerRecord record).pickup = s.pickup := by
  rcases s.offerRecord_cases record with ⟨_, h⟩ | ⟨f, _, h⟩ <;> simp [h]

@[simp] theorem State.offerRecord_synth (record : FrameRecord) (s : State) : (s.offerRecord record).synth = s.synth := by
  rcases s.offerRecord_cases record with ⟨_, h⟩ | ⟨f, _, h⟩ <;> simp [h]

@[simp] theorem State.offerRecord_answers (record : FrameRecord) (s : State) : (s.offerRecord record).answers = s.answers := by
  rcases s.offerRecord_cases record with ⟨_, h⟩ | ⟨f, _, h⟩ <;> simp [h]

@[simp] theorem State.offerRecord_pending (record : FrameRecord) (s : State) : (s.offerRecord record).pending = s.pending := by
  rcases s.offerRecord_cases record with ⟨_, h⟩ | ⟨f, _, h⟩ <;> simp [h]

@[simp] theorem State.offerRecord_tx_state (record : FrameRecord) (s : State) :
    (s.offerRecord record).tx.state = s.tx.state := by
  rcases s.offerRecord_cases record with ⟨_, h⟩ | ⟨f, _, h⟩ <;> simp [h]

/-- The store's answer to a synth frame, with its accounting. -/
theorem State.readStore_cases (s : State) :
    (s.store.readOut.repeated = none ∧
      s.readStore = ({ s with store := s.store.readOut.store }, s.store.readOut.record, s.store.readOut.prefill)) ∨
    (∃ frames, s.store.readOut.repeated = some frames ∧ s.readStore = (State.offerNotice
      { s with store := s.store.readOut.store, link := { s.link with repeatSlips := bump s.link.repeatSlips } }
      (.slip .repeat frames), s.store.readOut.record, s.store.readOut.prefill)) := by
  unfold State.readStore
  cases h : s.store.readOut.repeated with
  | none => exact .inl ⟨rfl, by simp [h]⟩
  | some f => exact .inr ⟨f, rfl, by simp [h]⟩

/-! ### The transmitter (R119 to R124) -/

/-- Everything that the completion of a message can do (R124). -/
theorem State.complete_cases (s : State) :
    (∃ m, s.tx.state = .sending m ∧ m.bytes.length ≤ m.position ∧ s.complete = (s.completeItem m.item).setTx .ready) ∨
    (¬ (∃ m, s.tx.state = .sending m ∧ m.bytes.length ≤ m.position) ∧ s.complete = s) := by
  unfold State.complete
  cases h : s.tx.state with
  | ready => exact .inr ⟨by simp, rfl⟩
  | aborting => exact .inr ⟨by simp, rfl⟩
  | sending m =>
    by_cases hl : m.bytes.length ≤ m.position
    · exact .inl ⟨m, rfl, hl, by simp [hl]⟩
    · exact .inr ⟨by simpa using hl, by simp [hl]⟩

/-- Every look of the arbiter either takes an item, discards one, or finds none, and a pick is a run of looks: what holds of a
state and of each look's result holds after the pick. -/
theorem pickWith_induction {P : State → Prop} (took : ∀ s t m, P s → s.pickOnce = .took t m → P t)
    (discarded : ∀ s t, P s → s.pickOnce = .discarded t → P t) :
    ∀ (fuel : Nat) (s : State), P s → P (pickWith fuel s).1
  | 0, _, h => h
  | fuel + 1, s, h => by
    unfold pickWith
    cases e : s.pickOnce with
    | nothing => exact h
    | took t m => exact took s t m h e
    | discarded t => exact pickWith_induction took discarded fuel t (discarded s t h e)

/-! ### Requests (R164, R176) -/

/-- Everything that taking a request can do. -/
theorem State.takeRequest_cases (execute : State → State) (s : State) :
    (s.answers.length ≤ 3 ∧ s.takeRequest execute = execute s) ∨
    (4 ≤ s.answers.length ∧ s.takeRequest execute = s.dropRequest) := by
  unfold State.takeRequest
  by_cases h : s.answers.length ≤ 3
  · exact .inl ⟨h, by simp [h]⟩
  · exact .inr ⟨by omega, by simp [h]⟩

/-- Everything that a request at the management unit can do. -/
theorem State.admitRequest_cases (execute : State → State) (s : State) :
    (s.synth.clock = .absent ∧ s.admitRequest execute = s) ∨
    (s.synth.clock = .present ∧ s.answers.length ≤ 3 ∧ s.admitRequest execute = execute s) ∨
    (s.synth.clock = .present ∧ 4 ≤ s.answers.length ∧ s.admitRequest execute = s.dropRequest) := by
  unfold State.admitRequest
  cases h : s.synth.clock
  · obtain ⟨hl, e⟩ | ⟨hl, e⟩ := s.takeRequest_cases execute
    · exact .inr (.inl ⟨rfl, hl, e⟩)
    · exact .inr (.inr ⟨rfl, hl, e⟩)
  · exact .inl ⟨rfl, rfl⟩

end Sys2Proof.Machine
end

