-- ==== Sys2Proof/Laws/Frames.lean ====
section
/-! SUPPORT. Packaged inductions: what the steps of a string, the work on a frame and a pickup frame time keep, from what their
parts keep. -/

namespace Sys2Proof.Machine

/-- A string's event changes that string's unit alone, and may offer a notice. -/
theorem State.takeEvent_cases (n : StringNo) (e : Event) (s : State) :
    ∃ u, s.takeEvent n e = s.setUnit n u ∨ ∃ notice, s.takeEvent n e = (s.setUnit n u).offerNotice notice := by
  have twice : ∀ u v, (s.setUnit n u).setUnit n v = s.setUnit n v := by intro u v; cases n <;> rfl
  have same : s.setUnit n (s.unit n) = s := by cases n <;> rfl
  cases e
  case faultEntry =>
    simp only [State.takeEvent, takeFaultEntry]
    split
    · exact ⟨s.unit n, .inl same.symm⟩
    · split
      all_goals first
        | exact ⟨_, .inr ⟨_, by simp only [State.modUnit, twice]; rfl⟩⟩
        | exact ⟨_, .inl rfl⟩
  case recovery =>
    simp only [State.takeEvent, takeRecovery]
    split
    · split
      · exact ⟨_, .inr ⟨_, by simp only [State.modUnit, twice]; rfl⟩⟩
      · exact ⟨_, .inl rfl⟩
    · exact ⟨s.unit n, .inl same.symm⟩
  all_goals exact ⟨_, .inl rfl⟩

/-- What every event of a string keeps, settling keeps. -/
theorem State.settle_keeps {P : State → Prop} (n : StringNo) (h : ∀ s e, P s → P (s.takeEvent n e)) (s : State) (hs : P s) :
    P (s.settle n) := by
  unfold State.settle
  induction Event.canonical generalizing s with
  | nil => exact hs
  | cons e l ih => exact ih _ (h s e hs)

/-- What every event of every string keeps, settling every string but those that wait keeps. -/
theorem State.settleBut_keeps {P : State → Prop} (h : ∀ s n e, P s → P (s.takeEvent n e)) (waits : Six Bool) (s : State)
    (hs : P s) : P (s.settleBut waits) := by
  unfold State.settleBut
  induction StringNo.all generalizing s with
  | nil => exact hs
  | cons n l ih =>
    refine ih _ ?_
    dsimp only
    split
    · exact hs
    · exact s.settle_keeps n (fun s e => h s n e) hs

/-- What every event of every string keeps, settling every string keeps. -/
theorem State.settleAll_keeps {P : State → Prop} (h : ∀ s n e, P s → P (s.takeEvent n e)) (s : State) (hs : P s) :
    P s.settleAll := s.settleBut_keeps h _ hs

/-- The event of a string that is not due changes nothing. -/
theorem State.takeEvent_of_due_none (n : StringNo) (e : Event) (s : State) (h : (s.unit n).due = .none) : s.takeEvent n e = s := by
  have same : s.setUnit n (s.unit n) = s := by cases n <;> rfl
  cases e <;>
    simp [State.takeEvent, State.modUnit, takeReport, takeRelease, takeExpiry, takeDampExit, takeStale, takeLockLoss, takeLock, takeFaultEntry,
      takeWaitEnd, takeRecovery, h, Due.none, same]

/-- With nothing due, settling a string changes nothing. -/
theorem State.settle_of_due_none (n : StringNo) (s : State) (h : (s.unit n).due = .none) : s.settle n = s := by
  unfold State.settle
  induction Event.canonical with
  | nil => rfl
  | cons e l ih => rw [List.foldl_cons, s.takeEvent_of_due_none n e h, ih]

/-- With nothing due on any string, settling the strings that do not wait changes nothing. -/
theorem State.settleBut_of_due_none (waits : Six Bool) (s : State) (h : ∀ n, (s.unit n).due = .none) : s.settleBut waits = s := by
  unfold State.settleBut
  induction StringNo.all with
  | nil => rfl
  | cons n l ih => rw [List.foldl_cons, s.settle_of_due_none n (h n), ite_self, ih]

/-- With no frame in process and nothing due on any string, nothing has waited for the judgement of a frame time. -/
theorem State.finishLeft_of_none (waitsOn : Bool) (s : State) (h : ∀ n, (s.unit n).due = .none) (hw : s.inProcess = none) :
    s.finishLeft waitsOn = s := by
  have left : ∀ acts, s.runLeft acts = s := fun acts => by rw [State.runLeft, hw]
  simp only [State.finishLeft, left, State.settleAll, s.settleBut_of_due_none _ h, ite_self]

/-- What every event of a string keeps, settling it without its tracker's reports keeps. -/
theorem State.settleUnreported_keeps {P : State → Prop} (n : StringNo) (h : ∀ s e, P s → P (s.takeEvent n e)) (s : State)
    (hs : P s) : P (s.settleUnreported n) := by
  unfold State.settleUnreported
  induction Event.unreported generalizing s with
  | nil => exact hs
  | cons e l ih => exact ih _ (h s e hs)

/-- An event that hands over no report changes nothing on a string with nothing else due. -/
theorem State.takeEvent_of_reports_only (n : StringNo) (e : Event) (s : State) (h : (s.unit n).dropReports.due = .none)
    (he : e ∈ Event.unreported) : s.takeEvent n e = s := by
  have same : s.setUnit n (s.unit n) = s := by cases n <;> rfl
  simp only [StringUnit.dropReports, Due.none, Due.mk.injEq] at h
  obtain ⟨-, h1, h2, h3, h4, h5, -, h6, h7, h8⟩ := h
  cases e
  case report => simp [Event.unreported, Event.canonical] at he
  case lock => simp [Event.unreported, Event.canonical] at he
  all_goals
    simp [State.takeEvent, State.modUnit, takeRelease, takeExpiry, takeDampExit, takeStale, takeLockLoss, takeFaultEntry,
      takeWaitEnd, takeRecovery, h1, h2, h3, h4, h5, h6, h7, h8, same]

/-- Settling a string with nothing due but its tracker's reports, and handing over none, changes nothing. -/
theorem State.settleUnreported_of_reports_only (n : StringNo) (s : State) (h : (s.unit n).dropReports.due = .none) :
    s.settleUnreported n = s := by
  have each : ∀ l : List Event, (∀ e ∈ l, e ∈ Event.unreported) → l.foldl (fun s e => s.takeEvent n e) s = s := by
    intro l
    induction l with
    | nil => intro _; rfl
    | cons e l ih =>
      intro he
      rw [List.foldl_cons, s.takeEvent_of_reports_only n e h (he e (by simp)), ih fun x hx => he x (by simp [hx])]
  exact each _ fun _ h => h

/-- What the parts of the work on a frame keep, a run of acts keeps. -/
theorem foldl_runAct_keeps {P : Work × State → Prop} (h : ∀ ws act, P ws → P (runAct ws act)) (acts : List FrameAct)
    (ws : Work × State) (hs : P ws) : P (acts.foldl runAct ws) := by
  induction acts generalizing ws with
  | nil => exact hs
  | cons a l ih => exact ih _ (h ws a hs)

/-- What a run of acts keeps, and the place of the frame in process does not touch, the work on a frame keeps. -/
theorem State.runFrame_keeps {P : State → Prop} (act : ∀ ws a, P ws.2 → P (runAct ws a).2)
    (place : ∀ s o, P s → P { s with inProcess := o }) (w : Work) (acts : List FrameAct) (s : State) (hs : P s) :
    P (s.runFrame w acts) := by
  have h := foldl_runAct_keeps (P := fun ws => P ws.2) act acts (w, s) hs
  exact place _ _ h

/-- A pickup frame time keeps what its parts keep: the work on a frame, the events, the entries, the return frame, the side byte
and the receiver's runs. -/
theorem State.pickupFrame_keeps {P : State → Prop} (act : ∀ ws a, P ws.2 → P (runAct ws a).2)
    (place : ∀ s o, P s → P { s with inProcess := o }) (event : ∀ s n e, P s → P (s.takeEvent n e))
    (hunt : ∀ s, P s → P s.takePickupHunt) (sync : ∀ s, P s → P s.takePickupSync)
    (judged : ∀ (s : State) (good : Bool) (drawn : Nat), P s → P
      { s with
        pickup := { s.pickup with receiver := (s.pickup.receiver.judge good).1 }
        drawn := drawn
        pickupOut := none })
    (accepted : ∀ s tag b, P s → P (({ s with index := s.index + 1 } : State).pickupSideByte tag b).sendReturnFrame)
    (frame : Option FrameBits) (order : FrameOrder) (s : State) (hs : P s) : P (s.pickupFrame frame order) := by
  have entry : ∀ s, P s → P s.settlePickup := by
    intro s h; unfold State.settlePickup; split
    · exact hunt s h
    · exact sync s h
  have resumed : P (s.resume order.before order.entryFirst) := by
    unfold State.resume; split
    · exact State.runFrame_keeps act place _ _ _ hs
    · exact hs
  have h := entry _ (State.settleBut_keeps event order.entryFirst _ resumed)
  have left : ∀ s acts, P s → P (s.runLeft acts) := by
    intro s acts h; unfold State.runLeft; split
    · exact h
    · exact State.runFrame_keeps act place _ _ _ h
  have finished : ∀ s waitsOn, P s → P (s.finishLeft waitsOn) := by
    intro s waitsOn h; unfold State.finishLeft; split
    · exact left _ _ h
    · exact State.settleAll_keeps event _ (left _ _ (left _ _ h))
  unfold State.pickupFrame State.judgePickup
  generalize ((s.resume order.before order.entryFirst).settleBut order.entryFirst).settlePickup = t at h
  have hj := judged t (frameGood frame) (t.drawn + if frame.isNone then 1 else 0) h
  have ho := fun waitsOn => show P (State.finishLeft waitsOn (if order.hold then
      { t with
        pickup := { t.pickup with receiver := (t.pickup.receiver.judge (frameGood frame)).1 }
        drawn := t.drawn + if frame.isNone then 1 else 0
        pickupOut := none }
      else State.settlePickup
        { t with
          pickup := { t.pickup with receiver := (t.pickup.receiver.judge (frameGood frame)).1 }
          drawn := t.drawn + if frame.isNone then 1 else 0
          pickupOut := none })) by
    apply finished
    split
    · exact hj
    · exact entry _ hj
  by_cases hk : (t.pickup.receiver.judge (frameGood frame)).2 = true
  · simp only [hk, if_true]
    exact State.runFrame_keeps act place _ _ _ (accepted _ _ _ (ho _))
  · simp only [hk]
    exact ho _

/-- The entry to HUNT makes nothing due on a string. -/
theorem huntString_due_none (r : StringRecord) (stamp : Index) (u : StringUnit) (h : u.due = .none) :
    (huntString r stamp u).due = .none := by
  have cleared : ∀ v : StringUnit, v.due = .none → v.clearContext.due = .none := by
    intro v hv; simp only [StringUnit.clearContext, hv]; rfl
  have ended : (endForced r.outputMode stamp .link u).due = .none := by
    unfold endForced endNote
    split
    · split
      · split
        · exact cleared _ ((offerLift_due _ _ _ u).trans h)
        · exact cleared _ h
      all_goals exact cleared _ h
    · exact cleared _ h
    all_goals exact h
  unfold huntString
  split <;> first | exact ended | exact h

/-- An entry of the pickup receiver makes nothing due on any string. -/
theorem State.settlePickup_due_none (s : State) (h : ∀ n, (s.unit n).due = .none) (n : StringNo) :
    (s.settlePickup.unit n).due = .none := by
  unfold State.settlePickup State.takePickupHunt State.takePickupSync
  split <;> split
  · have e : s.pickupHuntEntry.unit n = huntString (s.record n) s.index (s.unit n) := by
      simp [State.pickupHuntEntry, State.huntUnits, State.unit]
    rw [e]; exact huntString_due_none _ _ _ (h n)
  · exact h n
  · have e : s.pickupSyncEntry.unit n = s.unit n := by simp [State.pickupSyncEntry, State.unit]
    rw [e]; exact h n
  · exact h n

/-- An entry of the pickup receiver leaves the frame in process. -/
theorem State.settlePickup_inProcess (s : State) : s.settlePickup.inProcess = s.inProcess := by
  unfold State.settlePickup State.takePickupHunt State.takePickupSync
  split <;> split <;> simp [State.pickupHuntEntry, State.pickupSyncEntry]

/-- The judgement of a frame time makes nothing due on any string. -/
theorem State.judgePickup_due_none (good hold : Bool) (s : State) (h : ∀ n, (s.unit n).due = .none) (n : StringNo) :
    ((s.judgePickup good hold).1.unit n).due = .none := by
  unfold State.judgePickup
  cases hold
  · exact State.settlePickup_due_none { s with pickup := { s.pickup with receiver := (s.pickup.receiver.judge good).1 } } h n
  · exact h n

/-- The judgement of a frame time leaves the frame in process. -/
theorem State.judgePickup_inProcess (good hold : Bool) (s : State) : (s.judgePickup good hold).1.inProcess = s.inProcess := by
  unfold State.judgePickup
  cases hold
  · exact State.settlePickup_inProcess _
  · rfl

/-- A pickup frame time that finds no frame in process and nothing due: the entry of the receiver that is due, the judgement, and
the work on an accepted frame. Cite this in place of unfolding `State.pickupFrame`. -/
theorem State.pickupFrame_of_none (frame : Option FrameBits) (order : FrameOrder) (s : State)
    (h : ∀ n, (s.unit n).due = .none) (hw : s.inProcess = none) :
    s.pickupFrame frame order =
      (let t := State.judgePickup (frameGood frame) order.hold
        { s.settlePickup with drawn := s.settlePickup.drawn + (if frame.isNone then 1 else 0), pickupOut := none }
       if t.2 then t.1.acceptFrame (frameBits frame s.drawn) order else t.1) := by
  have resumed : s.resume order.before order.entryFirst = s := by unfold State.resume; rw [hw]
  unfold State.pickupFrame
  rw [resumed, s.settleBut_of_due_none _ h]
  have entered := s.settlePickup_due_none h
  have place : s.settlePickup.inProcess = none := s.settlePickup_inProcess.trans hw
  generalize s.settlePickup = t at *
  generalize hj : State.judgePickup (frameGood frame) order.hold
    { t with drawn := t.drawn + (if frame.isNone then 1 else 0), pickupOut := none } = j
  have due : ∀ n, (j.1.unit n).due = .none := by rw [← hj]; exact State.judgePickup_due_none _ _ _ entered
  have free : j.1.inProcess = none := by rw [← hj, State.judgePickup_inProcess]; exact place
  simp only [hj, State.finishLeft_of_none _ _ due free]

end Sys2Proof.Machine
end

