-- ==== Sys2Proof/Laws/PerInstr.lean ====
section
/-! SUPPORT. Statements made per command: a well-formed command's bytes fit a side-channel message. -/

namespace Sys2Proof.Laws.PayloadFits

/-- The bytes a well-formed command carries fit the receive buffer of a side channel (R168). -/
def Statement (c : Instr) : Prop := c.wellFormed = true → c.payload.length ≤ 64

/-- A body that fits a message fits the buffer. -/
theorem of_body {body : List Byte} (h : fitsBody body = true) : body.length ≤ 64 := by
  simp only [fitsBody, decide_eq_true_eq] at h
  omega

/-- A message that fits the buffer. -/
theorem of_message {message : List Byte} (h : fitsBuffer message = true) : message.length ≤ 64 := by
  simpa [fitsBuffer] using h

theorem powerOn : Statement .powerOn :=
  fun _ => Nat.zero_le 64

theorem pickupForwardFrame (frame : Option FrameBits) (order : FrameOrder) : Statement (.pickupForwardFrame frame order) :=
  fun _ => Nat.zero_le 64

theorem lock (n : StringNo) : Statement (.lock n) :=
  fun _ => Nat.zero_le 64

theorem lockLoss (n : StringNo) : Statement (.lockLoss n) :=
  fun _ => Nat.zero_le 64

theorem staleCrossing (n : StringNo) : Statement (.staleCrossing n) :=
  fun _ => Nat.zero_le 64

theorem strikeDeadlineExpiry (n : StringNo) : Statement (.strikeDeadlineExpiry n) :=
  fun _ => Nat.zero_le 64

theorem release (n : StringNo) : Statement (.release n) :=
  fun _ => Nat.zero_le 64

theorem faultEntry (n : StringNo) : Statement (.faultEntry n) :=
  fun _ => Nat.zero_le 64

theorem faultWaitEnd (n : StringNo) : Statement (.faultWaitEnd n) :=
  fun _ => Nat.zero_le 64

theorem recovery (n : StringNo) : Statement (.recovery n) :=
  fun _ => Nat.zero_le 64

theorem dampExit (n : StringNo) : Statement (.dampExit n) :=
  fun _ => Nat.zero_le 64

theorem pickupHuntEntry : Statement .pickupHuntEntry :=
  fun _ => Nat.zero_le 64

theorem pickupSyncEntry : Statement .pickupSyncEntry :=
  fun _ => Nat.zero_le 64

theorem converterMessage (message : List Byte) : Statement (.converterMessage message) :=
  fun h => of_message h

theorem synthForwardFrame (order : SynthOrder) : Statement (.synthForwardFrame order) :=
  fun _ => Nat.zero_le 64

theorem transmissionComplete : Statement .transmissionComplete :=
  fun _ => Nat.zero_le 64

theorem synthReturnFrame (frame : FrameBits) (order : ReturnOrder) : Statement (.synthReturnFrame frame order) :=
  fun _ => Nat.zero_le 64

theorem synthReceiverHuntEntry : Statement .synthReceiverHuntEntry :=
  fun _ => Nat.zero_le 64

theorem synthReceiverSyncEntry : Statement .synthReceiverSyncEntry :=
  fun _ => Nat.zero_le 64

theorem relayUpMessage (message : List Byte) : Statement (.relayUpMessage message) :=
  fun h => of_message h

theorem clockLost : Statement .clockLost :=
  fun _ => Nat.zero_le 64

theorem clockReturn : Statement .clockReturn :=
  fun _ => Nat.zero_le 64

theorem requestBadKind (kind : Byte) (body : List Byte) : Statement (.requestBadKind kind body) :=
  fun h => of_body (by simp only [Instr.wellFormed, Bool.and_eq_true] at h; exact h.2)

theorem put (body : List Byte) : Statement (.put body) :=
  fun h => of_body h

theorem get (body : List Byte) : Statement (.get body) :=
  fun h => of_body h

theorem mode (body : List Byte) : Statement (.mode body) :=
  fun h => of_body h

theorem clear (body : List Byte) : Statement (.clear body) :=
  fun h => of_body h

theorem damp (body : List Byte) : Statement (.damp body) :=
  fun h => of_body h

theorem status (body : List Byte) : Statement (.status body) :=
  fun h => of_body h

theorem counters (body : List Byte) : Statement (.counters body) :=
  fun h => of_body h

theorem resetTracking (tag : Byte) (order : ResetOrder) : Statement (.resetTracking tag order) :=
  fun _ => Nat.zero_le 64

theorem resetFull (tag : Byte) (order : ResetOrder) : Statement (.resetFull tag order) :=
  fun _ => Nat.zero_le 64

end Sys2Proof.Laws.PayloadFits
end

