-- ==== Sys2Proof/Laws/Requests.lean ====
section
/-! SUPPORT. What a served request does, in the words of the claims, and the numbers a request names. -/

namespace Sys2Proof.Machine

/-- A request that is served has its effect and is then answered (R176, R178). -/
theorem State.serve_of_serves (s : State) (h : s.Serves) (kind : Byte) (body : List Byte)
    (effect : List Byte → State → State × Reply) :
    s.serve kind body effect = (effect body s).1.answer kind (tagOf body) (effect body s).2 := by
  unfold State.serve
  rcases s.admitRequest_cases (fun s => (effect body s).1.answer kind (tagOf body) (effect body s).2) with
    ⟨hc, _⟩ | ⟨_, _, e⟩ | ⟨_, hl, _⟩
  · rw [h.1] at hc; cases hc
  · exact e
  · exact absurd h.2 (by omega)

/-- The answer of a request in the words of the claims. -/
theorem State.answer_eq_answered (s : State) (kind tag : Byte) (reply : Reply) :
    s.answer kind tag reply = s.answered kind tag reply.result.code reply.data := by
  simp [State.answer, State.answered, buildAnswer, message, kindAnswer]

@[simp] theorem stringOf_num (n : StringNo) : stringOf (byte n.num).toNat = some n := by cases n <;> rfl

@[simp] theorem outputMode_ofCode (mode : OutputMode) : OutputMode.ofCode (byte mode.code).toNat = some mode := by
  cases mode <;> rfl

@[simp] theorem sampleMode_ofCode (mode : SampleMode) : SampleMode.ofCode (byte mode.code).toNat = some mode := by
  cases mode <;> rfl

@[simp] theorem zoneMode_ofCode (mode : ZoneMode) : ZoneMode.ofCode (byte mode.code).toNat = some mode := by
  cases mode <;> rfl

theorem recordName_string (n : StringNo) : recordName 2 (byte n.num).toNat = .ok (.string n) := by cases n <;> rfl

theorem recordName_row (n : StringNo) : recordName 3 (byte n.num).toNat = .ok (.row n) := by cases n <;> rfl

theorem recordName_zone (i : Fin 32) : recordName 4 (byte i.val).toNat = .ok (.zone i) := by revert i; decide

theorem recordName_curve (i : Fin 4) : recordName 5 (byte i.val).toNat = .ok (.curve i) := by revert i; decide

end Sys2Proof.Machine
end

