-- ==== Sys2Proof/Tests/Slice0.lean ====
section
/-! SUPPORT. Tests: ill-formed commands refused, the worked examples of spec/, one small step of the commands, and for every
statement with hypotheses a state that meets them. Expected values are the spec's unless a comment says otherwise. -/

namespace Sys2Proof.Tests
open Sys2Proof Sys2Proof.Machine

-- One theorem at a time: each `decide +kernel` waits for every declaration before it, and many waiting at once use up the threads.
set_option Elab.async false

/-! ### Well-formedness and decoding -/

theorem test_long_converter_message_ill_formed :
    (Instr.converterMessage (List.replicate 65 0)).wellFormed = false := by decide
theorem test_long_relay_message_ill_formed :
    (Instr.relayUpMessage (List.replicate 65 0)).wellFormed = false := by decide
theorem test_full_messages_well_formed :
    (Instr.converterMessage (List.replicate 64 0)).wellFormed = true ∧ (Instr.relayUpMessage (List.replicate 64 0)).wellFormed = true := by
  decide
theorem test_long_bodies_ill_formed :
    ∀ c ∈ [Instr.put, .get, .mode, .clear, .damp, .status, .counters, .requestBadKind 0], (c (List.replicate 61 0)).wellFormed = false := by
  decide
theorem test_request_kinds_are_not_bad_kinds :
    (Instr.requestBadKind 0x20 []).wellFormed = false ∧ (Instr.requestBadKind 0x27 []).wellFormed = false ∧
      (Instr.requestBadKind 0x1F []).wellFormed = true ∧ (Instr.requestBadKind 0x28 []).wellFormed = true := by decide
theorem test_no_word_spells_a_command : decodeTableWord 0 0 = none ∧ State.reset.withFetchWord 8 5 = State.reset :=
  ⟨rfl, rfl⟩

/-! ### Worked examples of the spec -/

/-- The published check value of the CRC with the parameters of R171 (generator $8005, register $FFFF, no reflection). -/
theorem test_crc_check_value : crc [0x31, 0x32, 0x33, 0x34, 0x35, 0x36, 0x37, 0x38, 0x39] = 0xAEE7#16 := by decide +kernel

/-- Section 1.3: c[2][1] = 6554, x1 = 1,000,000, x2 = 200,000. -/
theorem test_cancellation : (cancel { Six.same (Six.same 0) with x2 := ⟨6554, 0, 0, 0, 0, 0⟩ } (Six.same .idle)
    ⟨1000000, 200000, 0, 0, 0, 0⟩).x2 = -12 := by decide +kernel

/-- Section 1.3, saturation: c[3][4] = −8192. -/
theorem test_cancellation_saturates : (cancel { Six.same (Six.same 0) with x3 := ⟨0, 0, 0, -8192, 0, 0⟩ } (Six.same .idle)
    ⟨0, 0, 8000000, 2000000, 0, 0⟩).x3 = 8388607 := by decide +kernel

/-- R5: halves away from zero. -/
theorem test_crosstalk_halves : crosstalkTerm 1 16384 = 1 ∧ crosstalkTerm 1 (-16384) = -1 ∧ crosstalkTerm (-1) 16384 = -1 := by
  decide +kernel

/-- R16 and section 2.5. -/
theorem test_envelope_decay : nextLevel 10 100000 50000 = 99903 ∧ nextLevel 4 30000 50000 = 50000 ∧
    nextLevel 4 84375 10000 = 79102 ∧ pressureLevel 4000000 79102 = 2 ∧ pressureLevel 4000000 1500000 = 47 := by decide +kernel

/-- Section 2.5, frame 14: re-attack at 160,000, none at 140,000. -/
theorem test_reattack : reattacks (.default .s1) ⟨160000, 90000, 47205, 0, 0⟩ = true ∧
    reattacks (.default .s1) ⟨140000, 90000, 47205, 0, 0⟩ = false := by decide +kernel

/-- R43: the four zero points. -/
theorem test_zero_points : zeroPoint 201 (-3000) 5000 = 3206 ∧ zeroPoint 51 (-1) 31 = 801 ∧ zeroPoint 9 0 700 = 128 ∧
    zeroPoint 12 (-700) 1 = 192 := by decide +kernel

/-- A tracker in SEARCH that has just appended the newest of a history, with candidate 1 eliminated and candidate 2 untested. -/
def searching (history : List Nat) : Tracker :=
  { Tracker.fresh .running with history := history, candidates := { Candidates.revived with c1 := ⟨false, 0, none⟩ } }

/-- Section 3.11: crossing 4 is a search pass with sum 1746. -/
theorem test_search_pass :
    (searchCrossing (.default .s1) (searching [900, 845, 901, 845])).2 = .report (.searchPass 1746) := by decide +kernel

/-- Section 3.11: crossing 5 locks with k = 2 and T = 446,720. -/
theorem test_lock_decision :
    (searchCrossing (.default .s1) { searching [900, 845, 901, 845, 900] with
      candidates := ⟨⟨false, 0, none⟩, ⟨true, 1, some 1746⟩, ⟨true, 0, none⟩, ⟨true, 0, none⟩⟩ }).2 = .lockDue .k2 446720 := by
  decide +kernel

/-- Section 3.12: crossing 8 restarts with 1100 alone. -/
theorem test_search_restart :
    (searchCrossing (.default .s1) { searching [1000, 1400, 600, 1500, 900, 1300, 800, 1100] with
      candidates := ⟨⟨false, 0, none⟩, ⟨false, 0, none⟩, ⟨false, 0, none⟩, ⟨true, 0, none⟩⟩ }).1.history = [1100] := by
  decide +kernel

/-- Section 4.8: the hit to 446,400, the miss at 421,888 and the jump to 422,144. -/
theorem test_hit_miss_jump :
    (Machine.measure (.default .s3) 446720 (1740 * 256) (.fresh .running)).2 = .report (.hit 446400) ∧
      (Machine.measure (.default .s3) 446720 (1648 * 256) (.fresh .running)).1.jump = some 421888 ∧
      (Machine.measure (.default .s3) 446720 (1649 * 256) { Tracker.fresh .running with jump := some 421888, misses := 1 }).2 =
        .report (.jump 422144) := by decide +kernel

/-- Section 4.8: the pitches of four periods. -/
theorem test_pitches : pitchOf Tables.default.device 446720 = 4416 ∧ pitchOf Tables.default.device 446400 = 4417 ∧
    pitchOf Tables.default.device 421888 = 4480 ∧ pitchOf Tables.default.device 422144 = 4479 := by decide +kernel

/-- R73: halfway gives the upper note, and the top clamps. -/
theorem test_raw_notes : [4416, 4447, 4448, 4480, 8160, 0].map rawNote = [69, 69, 70, 70, 127, 0] := by decide

/-- R87: the fold. -/
theorem test_fold : [76, 132, -8, 175, -2].map fold = [76, 120, 4, 127, 10] := by decide +kernel

/-- R88: one peak on the four curves. -/
theorem test_velocities : [Curve.linear, Curve.soft, Curve.hard, Curve.fixed].map (velocity 40000 4000000 1500000) =
    [47, 78, 18, 100] := by decide +kernel

/-- Section 5.11: the band of H = 69 and of H = 70, and the clamped GLIDE of a BEND zone. -/
theorem test_band : [4440, 4456, 4457].map (outsideBand 8 · 69) = [false, false, true] ∧
    [4440, 4439].map (outsideBand 8 · 70) = [false, true] ∧
    glideValue ⟨2, 0, .bend, 2, 0⟩ 4566 69 = (128, true) := by decide +kernel

/-- Section 6.7: the SHIFT 71 merges into H70, and the tail is then MERGED. -/
theorem test_merge : (offerShift .frozen 4 71 9 false { StringUnit.powerOn with
      queue := .strike 4 64 90 1 false false :: List.replicate 5 (.shift 4 69 3 false false) ++ [.shift 4 70 7 false false] }).queue.getLast? =
    some (.shift 4 71 7 false true) := by decide +kernel

/-- Section 6.7: the LIFT joins a queue of 7, and the next STRIKE is refused and counted. -/
theorem test_full_queue :
    (offerLift .frozen 9 .release { StringUnit.powerOn with queue := List.replicate 7 (.shift 4 69 3 false false) }).queue.length = 8 ∧
      (offerStrike .frozen (.strike 4 62 90 9 false false)
        { StringUnit.powerOn with queue := List.replicate 8 (.lift 0 .release) }).1.counters.lost = 1 := by decide +kernel

/-- A FLOWING store whose record in slot `i` carries index `base + i`, with the given read position and fill. -/
def flowing (base : Nat) (read : Fin 32) (fill : Nat) : Store :=
  { Store.powerOn with
    state := .flowing, read := read, fill := fill, write := advance read fill
    slots := Vector.ofFn fun i : Fin 32 => { samples := Six.same 0, index := BitVec.ofNat 16 (base + i.val) } }

/-- Section 8.8: at a fill of 2 the read repeats 14 frames, sends 987 and leaves 15 (slot `i` holds 983 + i). -/
theorem test_repeat_slip : (flowing 983 18 2).readOut.record.index = 987 ∧ (flowing 983 18 2).readOut.store.fill = 15 ∧
    (flowing 983 18 2).readOut.repeated = some 14 := by decide +kernel

/-- Section 8.9: at a fill of 30 the write drops 15 frames, and the next read sends 515 (slot `i` holds 500 + i). -/
theorem test_drop_slip : ((flowing 500 0 30).accept ⟨Six.same 0, 530⟩).2 = some 15 ∧
    ((flowing 500 0 30).accept ⟨Six.same 0, 530⟩).1.fill = 16 ∧
    ((flowing 500 0 30).accept ⟨Six.same 0, 530⟩).1.readOut.record.index = 515 := by decide +kernel

/-- Section 9.10: a MID while CLOSED is ignored, an IDLE aborts, a FIRST aborts and opens. -/
theorem test_side_receiver : takeSideByte .mid 5 none = (none, .none) ∧ takeSideByte .first 0x10 none = (some [0x10], .none) ∧
    takeSideByte .idle 0 (some [0x10, 5]) = (none, .abort) ∧ takeSideByte .first 0x10 (some [0]) = (some [0x10], .abort) := by decide

/-- Section 10.7: string record 3 is stored clamped and fixed. -/
theorem test_put_clamps :
    let offered := { StringRecord.default .s3 with attach := 50000, releaseThreshold := 60000, velocitySpan := 30000, tolerance := 80 }
    let bytes := offered.bytes.set 22 40
    readString .active .cancelled bytes = { StringRecord.default .s3 with
      attach := 50000, releaseThreshold := 49999, velocitySpan := 50001, tolerance := 64, zoneHead := none } := by decide +kernel

/-- R133: CONVERTER before CLIP before STUCK. -/
theorem test_condition_order : conditionPresent (.default .s1) ⟨32, 4096, none, true, none, 0, 0, 0⟩ = some .converter ∧
    conditionPresent (.default .s1) ⟨32, 4096, none, false, none, 0, 0, 0⟩ = some .clip ∧
    conditionPresent (.default .s1) ⟨31, 4096, none, false, none, 0, 0, 0⟩ = some .stuck ∧
    conditionPresent (.default .s1) ⟨31, 4095, none, false, none, 0, 0, 0⟩ = none := by decide +kernel

/-! ### States that meet the hypotheses of the statements -/

/-- Both links up, the clock PRESENT, the store in PREFILL, every string IDLE. -/
def ready : State :=
  { State.reset with
    store := { Store.powerOn with state := .prefill }, pickup := ⟨⟨.sync, 0, 0⟩, none, .ready⟩,
    synth := ⟨.present, ⟨.sync, 0, 0⟩, none⟩ }

/-- `ready` with a given first string. -/
def withFirst (u : StringUnit) : State := { ready with units := { ready.units with x1 := u } }

/-- `ready` with a given record of the first string. -/
def withRecord (r : StringRecord) (u : StringUnit) : State :=
  { withFirst u with tables := { Tables.default with strings := { Tables.default.strings with x1 := r } } }

/-- The default zone of string 1, captured. -/
def zoneOne : ZoneCopy := ⟨1, 0, .bend, 12, 0⟩

/-- A note of string 1 on A4. -/
def noteOne (announced : Bool) : Struck := ⟨69, some zoneOne, announced, false, some 69, 0, 0, 0, 0⟩

/-- String 1 in SOUNDING with a note and no due step. -/
def sounding (announced : Bool) : StringUnit :=
  { StringUnit.powerOn with
    state := .sounding, env := ⟨50000, 60000, 40000, 100, 0⟩, tracker := .fresh .running,
    context := .struck (noteOne announced), pitch := .tracking 4416 69, group := some ⟨1, 69⟩ }

/-- String 1 in ATTACK with no due step. -/
def attacking : StringUnit :=
  { StringUnit.powerOn with
    state := .attack, env := ⟨50000, 60000, 50000, 100, 0⟩, tracker := .fresh .running, context := .pending (.running 1) }

/-- String 1 in DAMPED with its timer at 0. -/
def damped : StringUnit := { StringUnit.powerOn with state := .damped, env := ⟨11999, 0, 0, 0, 0⟩ }

/-- String 1 in a fault state. -/
def faulted (state : StringState) : StringUnit :=
  { StringUnit.powerOn with state := state, monitor := { Monitor.clear with cause := some .clip } }

/-- Seven SHIFTs. -/
def seven : List NoteRecord := List.replicate 7 (.shift 1 69 0 false false)

/-- A part that plays: string 1 SOUNDING, string 2 in ATTACK, the store FLOWING at its centre with records 0 to 15, and a
STATUS request waiting. -/
def playing : State :=
  { ready with
    units := { ready.units with x1 := sounding true, x2 := attacking }, index := 15, store := flowing 0 0 16,
    pending := [.status [7, 1]] }

theorem playing_bounded : Bounded playing := by
  refine ⟨?_, by decide +kernel, by decide +kernel, by decide +kernel, by decide +kernel, by decide +kernel, by decide +kernel,
    by decide +kernel⟩
  intro n; cases n <;> decide +kernel

theorem playing_clocked : StoreClocked playing := by
  constructor <;> decide +kernel

theorem playing_consecutive : StoreConsecutive playing := by
  refine ⟨fun w h => (nomatch h), ?_⟩
  intro j h
  have hj : j < 16 := h
  clear h; revert j; decide +kernel

theorem playing_tables : TablesSound playing.tables := by
  refine ⟨by decide +kernel, ?_, ?_, by decide +kernel, ?_⟩
  · intro n; cases n <;> decide +kernel
  · intro n; refine ⟨by cases n <;> rfl, fun t => ?_⟩; cases n <;> cases t <;> decide +kernel
  · intro i; unfold CurveSound; revert i; decide +kernel

theorem playing_agrees : StringsAgree playing := by
  refine ⟨?_, fun h => (nomatch h)⟩
  intro n; cases n <;> decide +kernel

theorem playing_groups : GroupsWhole playing := by
  intro n; cases n <;> decide +kernel

/-- A tracker at its start values is sound. -/
theorem fresh_sound (run : RunState) : (Tracker.fresh run).Sound := by
  cases run <;> simp [Tracker.Sound, Tracker.fresh, Candidates.Sound, Candidate.Sound, Candidates.revived, Candidate.revived]

theorem playing_trackers : TrackersSound playing := by
  intro n
  cases n <;> exact ⟨fresh_sound _, fun _ h => nomatch h⟩

theorem playing_numbers : NumbersInRange playing := by
  refine ⟨?_, trivial⟩
  intro n
  cases n <;> simp [StringUnit.InRange, playing, State.unit, Six.get, ready, State.reset, Six.same, StringUnit.powerOn, sounding,
    attacking, noteOne, zoneOne]
  exact ⟨by decide, by decide⟩

/-- A step from `playing` answers a next state: with the theorems above, the hypotheses of CapacitiesKept, StoreFillKept,
StoreRunKept, TableRangesKept, StringBlocksAgreeKept, NoteGroupsKeptWhole, TrackerRangesKept and SentNumbersKeptInRange. -/
theorem witness_invariants : ∃ t, step playing = .next t := ⟨_, rfl⟩

/-- Hypotheses of StepRunsFrontCommand. -/
theorem witness_StepRunsFrontCommand : playing.pending = .status [7, 1] :: [] ∧ ready.pending = [] := ⟨rfl, rfl⟩

/-- Hypotheses of StoredRecordsRoundTrip, at both ends of the ranges. -/
theorem witness_StoredRecordsRoundTrip :
    DeviceRecord.Sound ⟨126, 46600, 96000, true, false, true, false⟩ ∧ DeviceRecord.Sound ⟨1, 41500, 32000, false, true, false, true⟩ ∧
      StringRecord.Sound { StringRecord.default .s1 with velocitySpan := levelMax, attach := levelMax - 1, dampTime := 65535 } ∧
      StringRecord.Sound { StringRecord.default .s1 with attach := 16, velocitySpan := 17, releaseThreshold := 15, zoneHead := none } ∧
      RowSound .s1 ⟨0, -16384, 16383, 0, 0, 0⟩ ∧ ZoneRecord.Sound ⟨127, 0, 16, -48, .step, 24, 3, none⟩ ∧
      ZoneRecord.Sound ⟨0, 127, 1, 48, .bend, 1, 0, some 31⟩ ∧ CurveSound (Vector.replicate 16 127) ∧
      CurveSound (Vector.replicate 16 1) := by
  refine ⟨by decide, by decide, by decide, by decide, ⟨rfl, fun t => by cases t <;> decide⟩, by decide, by decide,
    by unfold CurveSound; decide, by unfold CurveSound; decide⟩

/-- Hypotheses of BuiltMessagesPassCheck: a built message and a changed byte at each end. -/
theorem witness_BuiltMessagesPassCheck :
    let m := message Tables.default.device 0x25 [7, 0]
    2 ≤ m.length ∧ crcGood m = true ∧ 5 < m.length ∧ m[0]? ≠ some 0x11 ∧ m[5]? ≠ some 0 := by decide +kernel

/-- Hypotheses of FaultedNeighbourDropsOut. -/
theorem witness_FaultedNeighbourDropsOut :
    StringNo.s2 ≠ .s1 ∧ ((Six.same StringState.faultLatched).get .s1).faulted = true := by decide

/-- Hypotheses of EnvelopeLevelAndTests: each state, the attack test at A and one below it; a release-hold count at its limit and
one below it; a SOUNDING string that does not release, with the guard at its last frame, re-attacking and not; and a LIFT that is
taken, and not taken for each of its reasons. -/
theorem witness_EnvelopeLevelAndTests :
    let r := StringRecord.default .s1
    let level := fun (y : Int) (u : StringUnit) => max (min y.natAbs 8388607) (u.env.level - u.env.level / 2 ^ r.decayShift)
    StringUnit.powerOn.state = .idle ∧ attacking.state = .attack ∧ damped.state = .damped ∧ (faulted .faultWait).state.faulted = true ∧
      level (-40000) .powerOn = r.attach ∧ level 39999 .powerOn < r.attach ∧ (sounding true).state = .sounding ∧
      ¬ (level 0 (sounding true) < r.releaseThreshold ∧ r.releaseHold ≤ (sounding true).env.hold + 1) ∧ 1 ≤ r.releaseHold ∧
      (level 0 damped < r.releaseThreshold ∧ r.releaseHold ≤ (r.releaseHold - 1) + 1 ∧ ¬ r.releaseHold ≤ (r.releaseHold - 2) + 1) ∧
      ((noteOne true).announced = true ∧ (sounding true).accepts .frozen = true ∧ seven.length ≤ 7 ∧
        (noteOne false).announced = false ∧ (sounding true).accepts .muted = false ∧
        ({ sounding true with refusing := true } : StringUnit).accepts .active = false ∧ 8 ≤ (.lift 0 .release :: seven).length) ∧
      (let u := { sounding true with env := ⟨50000, 60000, 40000, 1, 0⟩ }
       ¬ min u.env.valley (level 0 u) * r.reattackRatio ≤ level 0 u * 8) ∧
      (let u := { sounding true with env := ⟨50000, 60000, 40000, 1, 0⟩ }
       u.env.guard ≤ 1 ∧ r.attach ≤ level 120000 u ∧ min u.env.valley (level 120000 u) * r.reattackRatio ≤ level 120000 u * 8) := by
  decide +kernel

/-- Hypotheses of ReleaseEndsTracking, the announced note with a queue of 7 and of 8, and where no record is taken. -/
theorem witness_ReleaseEndsTracking :
    let due := { Due.none with release := some (5 : Index) }
    let a := (withFirst { attacking with due := due }).unit .s1
    let b := (withFirst { sounding true with due := due, queue := seven }).unit .s1
    let c := (withFirst { sounding false with due := due }).unit .s1
    (a.due.release = some 5 ∧ a.state = .attack) ∧
      (b.due.release = some 5 ∧ b.state = .sounding ∧ b.context = .struck (noteOne true) ∧ b.queue.length ≤ 7 ∧
        b.accepts (ready.record .s1).outputMode = true ∧ b.accepts .muted = false ∧
        8 ≤ ({ b with queue := .lift 0 .release :: seven } : StringUnit).queue.length) ∧
      (c.due.release = some 5 ∧ c.state = .sounding ∧ c.context = .struck (noteOne false)) := by decide +kernel

/-- Hypotheses of DampExitGoesIdle: a timer at 0, and one that a DAMP has loaded again; samples at each side of the two tests. -/
theorem witness_DampExitGoesIdle :
    let s := fun damp => withFirst { damped with damp := damp, due := { Due.none with dampExit := true } }
    ((s 0).unit .s1).due.dampExit = true ∧ ((s 0).unit .s1).state = .damped ∧ ((s 0).unit .s1).damp = 0 ∧ 1 ≤ ((s 1).unit .s1).damp ∧
      (let due := fun damp y => (envelopeSample (.default .s1) y 5 { damped with damp := damp }).due.dampExit
       damped.state = .damped ∧ [due 0 0, due 1 0, due 2 0, due 1 12000] = [true, true, false, false]) := by decide +kernel

/-- A lock report at the period of A4, on frame 5. -/
def report : LockReport := ⟨.k2, 446720, 5⟩

/-- String 1 with a lock due. -/
def locking (u : StringUnit) : StringUnit :=
  { u with tracker := { u.tracker with decided := true }, due := { Due.none with lock := some report } }

/-- Hypotheses of LockStrikesPendingNote: no zone, a zone with a queue of 6 and of 7, and MUTED; a tracker restarted since its
decision; and a string that has left ATTACK and SOUNDING, and an EMPTY context. -/
theorem witness_LockStrikesPendingNote :
    let noZone := withRecord { StringRecord.default .s1 with zoneHead := none } (locking attacking)
    let six := withFirst { locking attacking with queue := seven.drop 1 }
    let full := withFirst { locking attacking with queue := seven }
    let mute := withRecord { StringRecord.default .s1 with outputMode := .muted } (locking attacking)
    let raw := rawNote (pitchOf Tables.default.device report.period)
    ((six.unit .s1).due.lock = some report ∧ (six.unit .s1).tracker.decided = true ∧ (six.unit .s1).state = .attack ∧
        (six.unit .s1).context = .pending (.running 1)) ∧
      zoneSearch noZone.tables.zones (noZone.record .s1).zoneHead raw = none ∧
      (zoneSearch six.tables.zones (six.record .s1).zoneHead raw).isSome = true ∧ (six.unit .s1).queue.length ≤ 6 ∧
      (six.unit .s1).accepts (six.record .s1).outputMode = true ∧ 7 ≤ (full.unit .s1).queue.length ∧
      (full.unit .s1).accepts (full.record .s1).outputMode = true ∧ (mute.unit .s1).accepts (mute.record .s1).outputMode = false ∧
      (let restarted := { locking attacking with tracker := .fresh .running }
       restarted.due.lock = some report ∧ restarted.tracker.decided = false ∧ restarted.state = .attack ∧
         restarted.context = .pending (.running 1)) ∧
      (let left := { damped with due := { Due.none with lock := some report } }
       left.due.lock = some report ∧ left.state ≠ .attack ∧ left.state ≠ .sounding ∧ left.context = .empty) := by
  decide +kernel

/-- Hypotheses of LockSettlesStruckNote: the same note, another note with and without a zone, announced (with a queue of 6 or of 7)
and not. -/
theorem witness_LockSettlesStruckNote :
    let u := locking (sounding true)
    let other := { noteOne true with held := 70, provisional := true }
    let raw := rawNote (pitchOf Tables.default.device report.period)
    (u.due.lock = some report ∧ u.tracker.decided = true ∧ u.state = .sounding ∧ u.context = .struck (noteOne true)) ∧
      (({ u with tracker := .fresh .running } : StringUnit).tracker.decided = false) ∧
      raw = (noteOne true).held ∧ raw ≠ other.held ∧ other.zone = some zoneOne ∧ other.announced = true ∧ u.queue.length ≤ 6 ∧
      u.accepts (ready.record .s1).outputMode = true ∧ ({ u with queue := seven } : StringUnit).due.lock = some report ∧
      ({ other with announced := false } : Struck).zone = some zoneOne ∧ ({ other with announced := false } : Struck).announced = false ∧
      ({ other with zone := none } : Struck).zone = none := by decide +kernel

/-- Hypotheses of LockLossReturnsToSearch. -/
theorem witness_LockLossReturnsToSearch :
    let u := { sounding true with
      tracker := { Tracker.fresh .running with lock := .locked, k := some .k1, period := some 65536, misses := 3 }
      due := { Due.none with lockLoss := some (5 : Index) } }
    u.due.lockLoss = some 5 ∧ u.tracker.lock = .locked ∧ 3 ≤ u.tracker.misses := by decide

/-- Hypotheses of StaleCrossingClearsHistory: SEARCH, LOCKED below the third miss, LOCKED at it. -/
theorem witness_StaleCrossingClearsHistory :
    let u := fun (lock : LockState) (misses : Nat) => { sounding true with
      tracker := { Tracker.fresh .running with lock := lock, ref := some ⟨0, 0⟩, stale := 0, misses := misses }
      due := { Due.none with stale := some (5 : Index) } }
    (∀ lock, ∀ m ∈ [1, 2], (u lock m).due.stale = some 5 ∧ (u lock m).tracker.ref.isSome = true ∧ (u lock m).tracker.stale = 0) ∧
      (u .search 0).tracker.lock = .search ∧ ((u .locked 1).tracker.lock = .locked ∧ (u .locked 1).tracker.misses ≤ 1) ∧
      2 ≤ (u .locked 2).tracker.misses := by
  refine ⟨fun lock => by cases lock <;> decide, by decide, by decide, by decide⟩

/-- Hypotheses of DeadlineExpiryStrikesOrWaits: no passing candidate; one, without a zone and with one, at a queue of 6, of 7 and
in MUTED; an expiry at a STRUCK, an EMPTY and a WAITING context; a lock due beside the expiry; a search-pass report at a WAITING deadline and at a running one. -/
theorem witness_DeadlineExpiryStrikesOrWaits :
    let due := { Due.none with expiry := some (5 : Index) }
    let waiting := { attacking with context := .pending (.running 0), due := due }
    let passing := { waiting with queue := seven.drop 1, tracker := { attacking.tracker with
      candidates := ⟨⟨false, 0, none⟩, ⟨true, 1, some 1745⟩, .revived, .revived⟩ } }
    let raw := rawNote (pitchOf Tables.default.device (256 * 1745))
    (waiting.due.expiry = some 5 ∧ waiting.due.lock = none ∧ waiting.context = .pending (.running 0) ∧
        (∀ k ∈ [CandidateNo.k1, .k2, .k3, .k4], (waiting.tracker.candidates.get k).passes = 0)) ∧
      (let c := passing.tracker.candidates
       (c.get .k2).alive = true ∧ 1 ≤ (c.get .k2).passes ∧ (c.get .k2).lastSum = some 1745 ∧ (c.get .k1).alive = false) ∧
      (∀ context ∈ [Context.struck (noteOne true), .empty, .pending .waiting, .pending (.running 1)],
        context ≠ .pending (.running 0)) ∧
      (passing.state = .attack ∧ passing.queue.length ≤ 6 ∧
        passing.accepts (ready.record .s1).outputMode = true ∧ 7 ≤ seven.length ∧ passing.accepts .muted = false) ∧
      (let both := { waiting with due := { due with lock := some report } }
       both.due.expiry = some 5 ∧ both.due.lock.isSome = true ∧
         (match exec (.lock .s1) (withFirst both) with
           | .next t => (match exec (.strikeDeadlineExpiry .s1) t with | .next v => (v.unit .s1).due.expiry == none | _ => false)
           | _ => false) = true) ∧
      (let reported := { attacking with context := .pending .waiting, due := { Due.none with report := some (.searchPass 1745, 5) } }
       reported.due.report = some (.searchPass 1745, 5) ∧ reported.context = .pending .waiting ∧ reported.state = .attack ∧
         attacking.context ≠ .pending .waiting) ∧
      zoneSearch ready.tables.zones none raw = none ∧
      (zoneSearch ready.tables.zones (ready.record .s1).zoneHead raw).isSome = true := by decide +kernel

/-- Hypotheses of FaultEntryTakenOrDiscarded: each group of states, the announced note with a queue of 7, and where no LIFT is
taken. -/
theorem witness_FaultEntryTakenOrDiscarded :
    let due := { Due.none with fault := some (Cause.clip, (5 : Index)) }
    due.fault = some (.clip, 5) ∧ ({ damped with due := due } : StringUnit).state = .damped ∧
      ({ attacking with due := due } : StringUnit).state = .attack ∧
      (let u := { sounding true with due := due, queue := seven }
       u.state = .sounding ∧ u.context = .struck (noteOne true) ∧ u.queue.length ≤ 7 ∧ u.accepts .frozen = true ∧
         u.accepts .muted = false) ∧
      (noteOne false).announced = false ∧ (faulted .faultTest).state.faulted = true := by decide

/-- Hypotheses of FaultWindowsAndRecovery: the two steps, a frame in each window with and without a condition, and the runs at
their limits and one below. -/
theorem witness_FaultWindowsAndRecovery :
    let a := { faulted .faultWait with due := { Due.none with waitEnd := true } }
    let b := { faulted .faultTest with due := { Due.none with recovery := true } }
    let r := StringRecord.default .s1
    (a.due.waitEnd = true ∧ a.state = .faultWait ∧ a.monitor.wait = 0) ∧
      (b.due.recovery = true ∧ b.state = .faultTest ∧ b.monitor.test = 0) ∧
      (({ b.monitor with flagSeen := true } : Monitor).flagSeen = true ∧ b.monitor.flagSeen = false ∧ b.monitor.clipRun < r.clipCount ∧
        r.clipCount ≤ ({ b.monitor with clipRun := 32 } : Monitor).clipRun ∧
        256 * r.stuckCount ≤ ({ b.monitor with stuckRun := 4096 } : Monitor).stuckRun ∧
        ({ b.monitor with stuckRun := 4095 } : Monitor).stuckRun < 256 * r.stuckCount) ∧
      conditionPresent r (updateRuns r 5 true b.monitor) = some .converter ∧
      conditionPresent r (updateRuns r 5 false b.monitor) = none := by decide +kernel

/-- Hypotheses of StepsNotDueDoNothing. -/
theorem witness_StepsNotDueDoNothing : (ready.unit .s1).due = .none ∧ ¬ ready.tx.CompletionDue :=
  ⟨rfl, fun ⟨_, h, _⟩ => (nomatch h)⟩

/-- Hypotheses of PitchIsRoundedLogarithm, and of FoldAndVelocity: a peak inside the span with its part of the curve. -/
theorem witness_PitchIsRoundedLogarithm : 0 < Tables.default.device.fs ∧ 0 < Tables.default.device.fA ∧ 0 < 65536 := by decide

theorem witness_FoldAndVelocity : (40000 : Nat) < 4000000 ∧ 40000 ≤ 1500000 ∧ 1500000 < 4000000 ∧
    (let x : ℚ := (1500000 - 40000) * 15 / (4000000 - 40000); ((5 : Nat) : ℚ) ≤ x ∧ x < (5 : Nat) + 1) := by norm_num

/-- Hypotheses of CrossingsCountedOnceArmed: a count, an armed and a disarmed detector, and a rise from exactly 0; intervals at both
ends of the range and one outside each, the shortest across a wrap of the time; a LOCKED tracker with too short a history, with
one of k intervals, and at each number of misses. -/
theorem witness_CrossingsCountedOnceArmed :
    let armed := { Tracker.fresh .running with detector := .armed, l := 8, zeroSinceArmed := true }
    (detect 8 armed).2 = true ∧ ((detect 9 armed).2 = false ∧ armed.detector = .armed) ∧
      (Tracker.fresh .running).detector = .disarmed ∧
      ((Tracker.fresh .running).l ≤ 0 ∧ 0 < (filterSample (.default .s1) 700 (.fresh .running)).l) ∧
      (let interval := fun point ref : Instant => (point.turn * 16777216 + point.ticks) - (ref.turn * 16777216 + ref.ticks)
       [interval ⟨255, 1⟩ ⟨16777215, 0⟩, interval ⟨254, 1⟩ ⟨16777215, 0⟩, interval ⟨65535, 0⟩ ⟨0, 0⟩, interval ⟨65536, 0⟩ ⟨0, 0⟩] =
         [256, 255, 65535, 65536]) ∧
      (let locked := { Tracker.fresh .running with lock := .locked, k := some .k2, period := some 446720, ref := some ⟨0, 0⟩ }
       locked.ref = some ⟨0, 0⟩ ∧ locked.lock = .locked ∧ (Tracker.fresh .running).lock = .search ∧
         (Tracker.fresh .running).ref = none ∧ (locked.history ++ [900]).length < CandidateNo.k2.num ∧
         CandidateNo.k2.num ≤ (({ locked with history := [845] } : Tracker).history ++ [900]).length ∧
         ({ locked with misses := 1 } : Tracker).misses ≤ 1 ∧ 2 ≤ ({ locked with misses := 2 } : Tracker).misses) ∧
      (let rising := { Tracker.fresh .running with detector := .armed, prevL := -1, l := -8, zero := some ⟨16, 0⟩, zeroSinceArmed := true }
       (detect 0 (filterSample (.default .s1) 8000000 rising)).2 = true ∧
         (detect 0 (filterSample (.default .s1) 8000000 rising)).1.zero.isSome = true ∧
         (detect 8 (filterSample (.default .s1) (-1) rising)).2 = false) := by decide +kernel

/-- Hypotheses of CrossingsCountedOnceArmed for a string's tracker: STOPPED, and each outcome of a sample. -/
theorem witness_CrossingsCountedOnceArmed_outcomes :
    let base := { Tracker.fresh .running with samples := 100, detector := .armed, l := -8, zeroSinceArmed := true, ref := some ⟨600, 0⟩ }
    let locked := fun period misses => { base with lock := .locked, k := some .k1, period := some period, misses := misses }
    let outcome := fun t => (trackSample (.default .s1) 0 8000000 t).2
    (StringUnit.powerOn.tracker.run = .stopped ∧ ({ attacking with tracker := base } : StringUnit).tracker.run = .running) ∧
      outcome { base with ref := none } = .quiet ∧ outcome (locked 256000 0) = .report (.hit 256000) ∧ outcome (locked 65536 2) = .lossDue ∧
      outcome { base with history := [1000], candidates := { Candidates.revived with c1 := ⟨true, 1, some 1000⟩ } } =
        .lockDue .k1 256000 ∧
      (trackSample (.default .s1) 0 0 { base with l := 0, stale := 1, detector := .disarmed }).2 = .staleDue := by decide +kernel

/-- Hypotheses of SmallestSurvivorLocks: none alive, a survivor short of `confirm` with a pass and without one, a survivor at it;
a candidate with fewer than 2k intervals, and sums that agree and that do not. -/
theorem witness_SmallestSurvivorLocks :
    let none := testCandidates 10 [1000, 1400, 600, 1500, 900, 1300, 800, 1100]
      ⟨⟨false, 0, .none⟩, ⟨false, 0, .none⟩, ⟨false, 0, .none⟩, ⟨true, 0, .none⟩⟩
    let some := testCandidates 10 [900, 845, 901, 845] ⟨⟨false, 0, .none⟩, .revived, .revived, .revived⟩
    ([none.c1, none.c2, none.c3, none.c4].all fun c => !c.alive) = true ∧ some.c1.alive = false ∧ some.c2.alive = true ∧
      some.c2.passes = 1 ∧ some.c2.lastSum = .some 1746 ∧ (some.c3.alive = true ∧ some.c3.passes = 0 ∧ some.c3.lastSum = .none) ∧
      (let again := testCandidates 10 [900, 845, 901, 845, 900] ⟨⟨false, 0, .none⟩, ⟨true, 1, .some 1746⟩, .revived, .revived⟩
       again.c2.alive = true ∧ (StringRecord.default .s1).confirm ≤ again.c2.passes ∧ again.c1.alive = false) ∧
      (let first := testCandidates 10 [900] .revived
       [first.c1, first.c2, first.c3, first.c4] = [.revived, .revived, .revived, .revived]) ∧
      (testCandidates 10 [900, 845] .revived).c1.alive = false := by decide +kernel

/-- Hypotheses of HitsJumpsAndMisses: offsets at the edge of the tolerance, then a jump and a miss; a hit and a jump at a note that
moves (a STEP zone's hit one beyond the band) and one that stays, with and without a zone, announced and not, and where the report
is discarded. -/
theorem witness_HitsJumpsAndMisses :
    let near := fun measured b : Nat => decide (((measured : Int) - b).natAbs * 256 ≤ b * 10)
    near (256000 + 10000) 256000 = true ∧ near (256000 + 10001) 256000 = false ∧ near 266001 270000 = true ∧
      near 266001 300000 = false ∧
      (let u := fun (report : Report) (note : Struck) => { sounding true with context := .struck note, due := { Due.none with report := some (report, 5) } }
       let step := { noteOne true with zone := some { zoneOne with mode := .step } }
       (u (.hit 422144) step).due.report = some (.hit 422144, 5) ∧ (u (.jump 422144) step).pitch ≠ .none ∧
         (u (.hit 422144) step).context = .struck step ∧ pitchOf Tables.default.device 422144 = 4479 ∧
         (rawNote 4479 ≠ step.held ∧ (step.zone.any fun z => z.mode == .step) = true ∧
           64 * (step.held : Int) + 32 + (StringRecord.default .s1).noteHysteresis < (4479 : Nat)) ∧
         ((noteOne true).zone.any fun z => z.mode == .step) = false ∧ rawNote 4417 = step.held ∧ step.announced = true ∧
         (noteOne false).announced = false ∧ ({ step with zone := none } : Struck).zone = none ∧
         ({ u (.jump 422144) step with pitch := .none } : StringUnit).pitch = .none ∧ attacking.context = .pending (.running 1)) := by
  decide +kernel

/-- Hypotheses of ContinuousValuesDue: a GLIDE due by one step, not due by its timer; a PRESS due by 2, not due by 1; HELD. -/
theorem witness_ContinuousValuesDue :
    let r := StringRecord.default .s1
    let n := noteOne true
    (sounding true).context = .struck n ∧ n.zone = some zoneOne ∧ (sounding true).accepts r.outputMode = true ∧ (sounding true).accepts .muted = false ∧
      (sounding true).pitch = .tracking 4416 69 ∧ n.announced = true ∧ n.glideTimer = 0 ∧
      r.glideStep ≤ ((4417 - 64 * n.held : Int) - n.lastGlide).natAbs ∧ ({ n with glideTimer := 1 } : Struck).glideTimer ≠ 0 ∧
      r.pressInterval ≠ 0 ∧ n.pressTimer = 0 ∧ 2 ≤ ((2 : Int) - n.lastPress).natAbs ∧ ¬ 2 ≤ ((1 : Int) - n.lastPress).natAbs ∧
      ({ sounding true with pitch := .held 4416 69 } : StringUnit).pitch = .held 4416 69 := by decide +kernel

/-- Hypotheses of QueueAdmission: queues of 6, 7 and 8, with each kind at the tail of 7, and both reasons to refuse. -/
theorem witness_QueueAdmission :
    (seven.drop 1).length ≤ 6 ∧ 7 ≤ seven.length ∧ seven = seven.drop 1 ++ [.shift 1 69 0 false false] ∧
      (seven.drop 1 ++ [NoteRecord.strike 1 69 90 0 true false]).length = 7 ∧ (seven.drop 1 ++ [NoteRecord.lift 0 .release]).length = 7 ∧
      8 ≤ (seven ++ [NoteRecord.lift 0 .release]).length ∧ StringUnit.powerOn.accepts .frozen = true ∧
      StringUnit.powerOn.accepts .muted = false ∧ ({ StringUnit.powerOn with refusing := true } : StringUnit).accepts .active = false := by
  decide

/-- Hypotheses of NoticeQueueAdmission: a masked kind, and queues of 7 and 8. -/
theorem witness_NoticeQueueAdmission :
    ({ Tables.default.device with slipNotices := false } : DeviceRecord).enables (.slip .drop 15) = false ∧
      Tables.default.device.enables (.slip .drop 15) = true ∧ (List.replicate 7 (Notice.recover .s1)).length ≤ 7 ∧
      8 ≤ (List.replicate 8 (Notice.recover .s1)).length := by decide

/-- Hypotheses of StoreWritesReadsAndSlips at each limit of the fill. -/
theorem witness_StoreWritesReadsAndSlips :
    Store.powerOn.state = .halted ∧ ready.store.state = .prefill ∧ (flowing 0 0 29).state = .flowing ∧ (flowing 0 0 29).fill ≤ 29 ∧
      (flowing 0 0 30).fill = 30 ∧ 3 ≤ (flowing 0 0 3).fill ∧ (flowing 983 18 2).fill ≤ 2 ∧
      ((4 : Fin 32).val + (16 - (flowing 983 18 2).fill)) % 32 = (flowing 983 18 2).read.val := by decide +kernel

/-- Hypotheses of ConsecutiveSynthIndices, at a fill of 16 and of 3. -/
theorem witness_ConsecutiveSynthIndices :
    (StoreClocked playing ∧ StoreConsecutive playing ∧ playing.store.state = .flowing) ∧
      (let s := { playing with store := flowing 0 13 3 }
       StoreClocked s ∧ StoreConsecutive s ∧ s.store.fill = 3) := by
  refine ⟨⟨playing_clocked, playing_consecutive, rfl⟩, ⟨by decide +kernel, by decide +kernel⟩, ⟨fun w h => (nomatch h), ?_⟩, rfl⟩
  intro j h
  have hj : j < 16 := h
  clear h; revert j; decide +kernel

/-- No step of any string of `ready` is due. -/
theorem ready_nothingDue : ready.NothingDue := by intro n; cases n <;> rfl

/-- A frame with good sync and nothing else. -/
def goodFrame : FrameBits := syncPattern ++ 0#240

/-- Hypotheses of HuntDiscardsFrames: the first and the second good frame, and a bad one. -/
theorem witness_HuntDiscardsFrames :
    let s := fun good => { ready with pickup := ⟨⟨.hunt, good, 0⟩, none, .ready⟩ }
    ((s 1).pickup.receiver.state = .hunt ∧ (s 1).pickup.receiver.good ≤ 1 ∧ (s 1).inProcess = none ∧ (s 1).NothingDue) ∧
      frameGood (some goodFrame) = true ∧ frameGood none = false ∧ ({} : FrameOrder).hold = false :=
  ⟨⟨rfl, Nat.le_refl _, rfl, ready_nothingDue⟩, by decide +kernel, rfl, rfl⟩

/-- A good frame whose side channel carries a tag and a byte. -/
def sideFrame (tag : Tag) (b : Byte) : FrameBits := syncPattern ++ 0#150 ++ tag.code ++ b ++ 0#80

/-- A message that passes the check, to address 0x23. -/
def relayed : List Byte := withCrc [0x23, 0x25]

/-- String 1 of `ready` SOUNDING with a report due, the receiver two bad frames short of HUNT. -/
def reported (report : Report) : State :=
  { withFirst { sounding true with due := { Due.none with report := some (report, 5) } } with
    pickup := ⟨⟨.sync, 0, 2⟩, none, .ready⟩ }

/-- Hypotheses of SyncAcceptsFrames and CanonicalFrameWork: a good frame after two bad ones, the second bad frame, and each state
of the return transmitter; each tag, a buffer at each limit, and a LAST byte with a good and a bad CRC, with relay-down at each
limit; the third bad frame, with and without hold; and a report that the order puts after the entry to HUNT. -/
theorem witness_SyncAcceptsFrames :
    let s := fun bad ret up => { ready with pickup := ⟨⟨.sync, 0, bad⟩, none, ret⟩, relayUp := up }
    (s 2 .ready []).pickup.receiver.bad ≤ 2 ∧ frameGood (some goodFrame) = true ∧ (s 1 .ready []).pickup.receiver.bad ≤ 1 ∧
      (s 1 .ready []).inProcess = none ∧ (s 1 .ready [[1, 2, 3, 4]]).relayUp = [1, 2, 3, 4] :: [] ∧
      (∀ i ∈ [0, 1, 3], (s 1 (.sending [1, 2, 3, 4] i) []).pickup.ret = .sending [1, 2, 3, 4] i ∧ i < 4) ∧
      (∀ tag ∈ [Tag.idle, .first, .mid, .last], frameGood (some (sideFrame tag 0x5A)) = true ∧
        pickupTag (sideFrame tag 0x5A) = tag ∧ pickupSide (sideFrame tag 0x5A) = 0x5A) ∧
      ((List.replicate 63 (0 : Byte)).length ≤ 63 ∧ 64 ≤ (List.replicate 64 (0 : Byte)).length ∧ ([1, 2] : List Byte).length ≤ 2 ∧
        3 ≤ relayed.dropLast.length ∧ relayed.dropLast ++ [relayed.getLast?.getD 0] = relayed ∧ crcGood relayed = true ∧
        crcGood (relayed.dropLast ++ [relayed.getLast?.getD 0 + 1]) = false) ∧
      (({ ready with relayDown := [relayed] } : State).relayDown.length ≤ 1 ∧
        2 ≤ ({ ready with relayDown := [relayed, relayed] } : State).relayDown.length) ∧
      ((s 2 .ready []).pickup.receiver.bad = 2 ∧ frameGood none = false ∧ frameGood (some 0) = false ∧
        (∀ n, ((s 2 .ready []).unit n).due = .none)) ∧
      (({ entryFirst := ⟨true, false, false, false, false, false⟩ } : FrameOrder).entryFirst.get .s1 = true ∧
        (∀ state ∈ [StringState.attack, .sounding], ({ sounding true with state := state } : StringUnit).state = state) ∧
        ((reported (.jump 422144)).unit .s1).due = { Due.none with report := some (.jump 422144, 5) } ∧
        ∀ m ∈ [StringNo.s2, .s3, .s4, .s5, .s6], ((reported (.jump 422144)).unit m).due = .none) := by
  refine ⟨?_, ?_, ?_, ?_, ?_, ?_, ?_, ?_, ?_, ⟨?_, ?_, ?_, fun n => by cases n <;> rfl⟩, ?_⟩ <;> decide +kernel

/-- Hypotheses of CanonicalFrameWork for a string, quiet and loud enough to attack, and for the store, a write that slips and one
that does not. -/
theorem witness_CanonicalFrameWork :
    let r := ready.record .s1
    let loud : FrameBits := syncPattern ++ BitVec.ofInt 24 40000 ++ 0#216
    (ready.unit .s1).state = .idle ∧ (ready.unit .s1).tracker.run = .stopped ∧ goodSync loud = true ∧
      conditionPresent r (updateRuns r 40000 (frameFlag loud .s1) (ready.unit .s1).monitor) = none ∧
      (cancel ready.tables.matrix ready.states (Six.ofFn (frameSample loud))).x1 = 40000 ∧ r.attach ≤ 40000 ∧
      (cancel ready.tables.matrix ready.states (Six.ofFn (frameSample goodFrame))).x1 = 0 ∧ 0 < r.attach ∧
      (attacking.state = .attack ∧ (sounding true).state = .sounding ∧ damped.state = .damped) ∧
      (let flagged : FrameBits := syncPattern ++ 0#144 ++ 0x80#8 ++ 0#88
       goodSync flagged = true ∧ conditionPresent r (updateRuns r 0 (frameFlag flagged .s1) Monitor.clear) = some .converter) ∧
      (∀ state ∈ [StringState.off, .faultLatched, .faultWait, .faultTest], (faulted state).tracker.run = .stopped) ∧
      (∀ count ∈ [1, 2], ({ faulted .faultWait with monitor := { Monitor.clear with wait := count, test := count } } :
        StringUnit).monitor.wait = count) ∧ conditionPresent r (updateRuns r 0 false Monitor.clear) = none ∧
      ((flowing 500 0 30).accept ⟨Six.same 0, 530⟩).2 = some 15 ∧ ((flowing 500 0 29).accept ⟨Six.same 0, 529⟩).2 = none := by
  decide +kernel

/-- Hypotheses of PickupHuntEntry and of the due clauses of ReceiverEntries. -/
theorem witness_PickupHuntEntry :
    let s := { withFirst { sounding true with queue := seven } with pickup := ⟨⟨.sync, 0, 3⟩, none, .ready⟩ }
    s.pickup.receiver.state = .sync ∧ 3 ≤ s.pickup.receiver.bad ∧ (s.unit .s1).state = .sounding ∧
      (s.unit .s1).context = .struck (noteOne true) ∧ (s.unit .s1).accepts (s.record .s1).outputMode = true ∧
      (s.unit .s1).queue.length ≤ 7 ∧ (s.unit .s2).state = .idle ∧ (sounding false).context = .struck (noteOne false) ∧
      attacking.state = .attack ∧ (faulted .faultTest).state.faulted = true := by decide +kernel

theorem witness_ReceiverEntries :
    let s := { ready with pickup := ⟨⟨.hunt, 2, 0⟩, none, .ready⟩, synth := ⟨.present, ⟨.sync, 0, 3⟩, none⟩ }
    let t := { ready with synth := ⟨.present, ⟨.hunt, 2, 0⟩, none⟩ }
    s.pickup.receiver.state = .hunt ∧ 2 ≤ s.pickup.receiver.good ∧ s.synth.receiver.state = .sync ∧ 3 ≤ s.synth.receiver.bad ∧
      t.synth.receiver.state = .hunt ∧ 2 ≤ t.synth.receiver.good ∧ t.pickup.receiver.bad ≤ 2 := by decide

/-- Hypotheses of ConverterMessageRelayed at each limit. -/
theorem witness_ConverterMessageRelayed :
    65 ≤ (List.replicate 65 (0 : Byte)).length ∧ ([1, 2, 3] : List Byte).length ≤ 3 ∧ crcGood relayed = true ∧ relayed.length = 4 ∧
      crcGood [1, 2, 3, 4] = false ∧ ready.relayDown.length ≤ 1 ∧
      2 ≤ ({ ready with relayDown := [relayed, relayed] } : State).relayDown.length ∧ ready.pickup.receiver.state = .sync ∧
      State.reset.pickup.receiver.state = .hunt := by decide +kernel

/-- Hypotheses of RelayUpMessageRouted: another device, the highest relayed address, the part's own, one past the range. -/
theorem witness_RelayUpMessageRouted :
    ready.synth.clock = .present ∧ ready.tables.device.Sound ∧ crcGood (withCrc [0x00, 0x25]) = true ∧
      crcGood (withCrc [0x7E, 0x25]) = true ∧ crcGood (withCrc [0x10, 0x25]) = true ∧ crcGood (withCrc [0x7F, 0x25]) = true ∧
      (0x10 : Byte).toNat = ready.tables.device.address ∧ (0x7E : Byte).toNat ≠ ready.tables.device.address := by decide +kernel

/-- A synth return frame with a tag and a side byte. -/
def returnBits (tag : Tag) (b : Byte) : FrameBits := syncPattern ++ tag.code ++ b ++ 0#230

/-- Hypotheses of SynthReturnFrameTaken: HUNT before the first and the second good frame, SYNC at the third bad one; each tag, a
buffer of 2, 3, 63 and 64; and the LAST byte of a message to the part, to all devices, to the last relayed address and past it,
and of one with a bad CRC. -/
theorem witness_SynthReturnFrameTaken :
    let request := withCrc (byte ready.tables.device.address :: 0x25 :: [7, 0])
    (ready.synth.receiver.state = .sync ∧ ready.synth.receiver.bad ≤ 2 ∧ goodSync (returnBits .last 5) = true ∧
        returnTag (returnBits .last 5) = .last ∧ returnTag (returnBits .first 5) = .first ∧ returnTag (returnBits .mid 5) = .mid ∧
        returnTag (returnBits .idle 5) = .idle ∧ returnSide (returnBits .last 5) = 5) ∧
      (List.replicate 63 (0 : Byte)).length ≤ 63 ∧ 64 ≤ (List.replicate 64 (0 : Byte)).length ∧
      request.dropLast ++ [returnSide (returnBits .last (request.getLast?.getD 0))] = request ∧
      State.reset.synth.clock = .absent ∧ State.reset.synth.receiver.good ≤ 1 ∧ goodSync 0 = false ∧
      (∀ address : Byte, ∀ _h : address = 0 ∨ address = 0x10 ∨ address = 0x7E ∨ address = 0x7F,
        let m := withCrc (address :: 0x25 :: [7, 0])
        m.dropLast ++ [m.getLast?.getD 0] = m ∧ m.dropLast.length = 5) ∧
      (ready.tables.device.address = 0x10 ∧ ready.tables.device.Sound ∧ crcGood ([0x10, 0x25, 0] ++ [0]) = false ∧
        ([0, 0] : List Byte).length ≤ 2 ∧ 3 ≤ ([0x10, 0x25, 0] : List Byte).length) ∧
      ({ ready with synth := ⟨.present, ⟨.hunt, 1, 0⟩, none⟩ } : State).synth.receiver.good = 1 ∧
      ({ ready with synth := ⟨.present, ⟨.sync, 0, 2⟩, none⟩ } : State).synth.receiver.bad = 2 ∧
      isRequestKind 0x1F = false := by
  refine ⟨by decide +kernel, by decide, by decide, by decide +kernel, by decide, by decide, by decide +kernel, ?_,
    by decide +kernel, rfl, rfl, by decide⟩
  rintro a (rfl | rfl | rfl | rfl) <;> decide +kernel

/-- Hypotheses of SynthForwardFrameSent: each state of the transmitter, the next to last and the last byte, a REPEAT slip, a
completion left due, and what the arbiter picks, something and nothing. -/
theorem witness_SynthForwardFrameSent :
    let m : InFlight := ⟨.other, relayed, 2⟩
    (ready.synth.clock = .present ∧ ready.store.readOut = ⟨ready.store, ⟨Six.same 0, 0⟩, true, none⟩) ∧
      m.position + 1 < m.bytes.length ∧ m.position + 2 = m.bytes.length ∧
      (ready.tx.state = .ready ∧ ready.tx.notices = [] ∧ ready.answers = [] ∧ ready.relayDown = []) ∧
      (∀ n, (ready.unit n).queue = [] ∧ (ready.unit n).glide = none ∧ (ready.unit n).press = none) ∧
      (flowing 0 16 2).readOut.repeated = some 14 ∧
      (({ ready with tx := ⟨.sending { m with position := 4 }, .s6, .s6, []⟩ } : State).tx.CompletionDue) ∧ ready.pick = (ready, none) ∧
      (let s := { ready with answers := [relayed] }
       s.pick = (ready, some ⟨.other, relayed, 0⟩) ∧ 2 ≤ relayed.length) :=
  ⟨⟨rfl, rfl⟩, by decide +kernel, by decide +kernel, ⟨rfl, rfl, rfl, rfl⟩, fun n => by cases n <;> exact ⟨rfl, rfl, rfl⟩, rfl,
    ⟨_, rfl, by decide +kernel⟩, by decide +kernel, by decide +kernel⟩

/-- Hypotheses of ArbiterOrder: a queue eligible, none eligible, a slot eligible, nothing eligible; the queue of a MUTED string
and of a FROZEN one; and the turn of the string after the one last served, and of that one itself. -/
theorem witness_ArbiterOrder :
    let turn := fun pointer n : StringNo => (n.num + 5 - pointer.num) % 6
    let queued := withFirst { sounding true with queue := [.lift 5 .release] }
    let slotted := withFirst { sounding true with glide := some ⟨1, 3, 5, false⟩ }
    (roundRobin queued.tx.queuePointer).find? queued.queueEligible = some .s1 ∧ queued.tx.notices = [] ∧
      (queued.unit .s1).group = some ⟨1, 69⟩ ∧ (∀ n ∈ StringNo.all, slotted.queueEligible n = false) ∧
      (roundRobin slotted.tx.slotPointer).find? slotted.slotEligible = some .s1 ∧
      (∀ n ∈ StringNo.all, ready.slotEligible n = false) ∧
      (∀ n ∈ StringNo.all, ((queued.record n).outputMode ≠ .frozen ∧ (queued.unit n).queue ≠ []) ↔ n = .s1) ∧
      (turn .s6 .s1 = 0 ∧ turn .s3 .s4 = 0 ∧ turn .s3 .s3 = 5) ∧
      (let mode := fun m => withRecord { StringRecord.default .s1 with outputMode := m } { sounding true with queue := [.lift 5 .release] }
       (mode .muted).queueEligible .s1 = true ∧ (mode .frozen).queueEligible .s1 = false) := by decide +kernel

/-- Hypotheses of TransmissionCompleteUpdatesGroup and the due side of ClockLostAndReturn. -/
theorem witness_TransmissionCompleteUpdatesGroup :
    let m : InFlight := ⟨.shift .s1 70, relayed, 4⟩
    m.bytes.length ≤ m.position ∧ m.item = .shift .s1 70 ∧ ((withFirst (sounding true)).unit .s1).group = some ⟨1, 69⟩ := by
  decide +kernel

theorem witness_ClockLostAndReturn : (ready.synth.clock = .present ∧ ¬ ready.tx.CompletionDue) ∧ State.reset.synth.clock = .absent ∧
    (let s := { ready with tx := ⟨.sending ⟨.other, relayed, 4⟩, .s6, .s6, []⟩ }
     s.synth.clock = .present ∧ s.tx.CompletionDue ∧ ∃ t, exec .transmissionComplete s = .next t) :=
  ⟨⟨rfl, fun ⟨_, h, _⟩ => (nomatch h)⟩, rfl, rfl, ⟨_, rfl, by decide +kernel⟩, _, rfl⟩

/-- Hypotheses of the request statements: a part that serves, with three answers waiting, and one that drops. -/
theorem witness_requests_served :
    ({ ready with answers := List.replicate 3 relayed } : State).Serves ∧
      4 ≤ ({ ready with answers := List.replicate 4 relayed } : State).answers.length := ⟨⟨rfl, by decide⟩, by decide⟩

/-- Hypotheses of ReadingRequestsAnswered: kinds at the edges, a table and an index past the last, a short body. -/
theorem witness_ReadingRequestsAnswered :
    isRequestKind 0x1F = false ∧ isRequestKind 0x28 = false ∧ 6 ≤ (6 : Byte).toNat ∧ 7 ≤ (7 : Byte).toNat ∧
      ([1] : List Byte).length ≠ 2 := by decide

/-- Hypotheses of PutStoresRecords: records of the right length with codes in and outside their lists, and tables, indices and
lengths at the edges. -/
theorem witness_PutStoresRecords :
    let r := StringRecord.default .s1
    let z := Tables.default.zones.get 0
    r.bytes.length = 43 ∧ OutputMode.ofCode (byteAt r.bytes 1) = some r.outputMode ∧
      SampleMode.ofCode (byteAt r.bytes 2) = some r.sampleMode ∧ r.enable = (ready.record .s1).enable ∧
      r.outputMode = (ready.record .s1).outputMode ∧ r.Sound ∧ z.Sound ∧ z.bytes.length = 8 ∧
      ZoneMode.ofCode (byteAt z.bytes 4) = some z.mode ∧ 3 ≤ byteAt (r.bytes.set 1 3) 1 ∧ 3 ≤ byteAt (r.bytes.set 2 3) 2 ∧
      2 ≤ byteAt (z.bytes.set 4 2) 4 ∧ (readString .active .cancelled r.bytes).enable = r.enable ∧
      (6 ≤ (6 : Byte).toNat ∧ 7 ≤ (7 : Byte).toNat ∧ 32 ≤ (32 : Byte).toNat ∧ 4 ≤ (4 : Byte).toNat ∧ (1 : Byte) ≠ 0) ∧
      Tables.default.device.bytes.length = 7 ∧ (rowBytes (Six.same 0)).length = 12 ∧ (curveBytes Curve.linear).length = 16 := by
  refine ⟨?_, ?_, ?_, rfl, rfl, by decide, by decide, ?_, ?_, ?_, ?_, ?_, ?_, ?_⟩ <;> decide +kernel

/-- Hypotheses of EnableTurnsStringOffAndOn: the enable turned off in each state, alone and with a change to MUTED, and turned on. -/
theorem witness_EnableTurnsStringOffAndOn :
    let on := StringRecord.default .s1
    let off := { on with enable := false }
    on.Sound ∧ off.Sound ∧ on.enable = (ready.record .s1).enable ∧ on.outputMode = (ready.record .s1).outputMode ∧
      (withRecord off { StringUnit.powerOn with state := .off }).unit .s1 = { StringUnit.powerOn with state := .off } ∧
      ((withRecord off .powerOn).record .s1).enable = false ∧ (faulted .faultWait).state.faulted = true ∧
      attacking.state = .attack ∧ (sounding true).context = .struck (noteOne true) ∧ seven.length ≤ 7 ∧
      (sounding true).accepts off.outputMode = true ∧ (sounding false).context = .struck (noteOne false) ∧
      (let mute := { off with outputMode := .muted }
       mute.Sound ∧ mute.enable = false ∧ (ready.record .s1).enable = true ∧ (ready.record .s1).outputMode ≠ .muted) :=
  ⟨by decide, by decide, rfl, rfl, rfl, rfl, rfl, rfl, rfl, by decide, rfl, rfl, by decide, rfl, rfl, by decide⟩

/-- Hypotheses of ModeWritesOutputMode: a change to MUTED with a group, with a STRIKE in flight alone, and with neither; a stored
MUTED; a record that changes the mode and keeps the enable; string numbers at each side of the range; and short and long bodies. -/
theorem witness_ModeWritesOutputMode :
    (ready.record .s1).outputMode ≠ .muted ∧ ((withFirst (sounding true)).unit .s1).group.isSome = true ∧
      (ready.unit .s1).group = none ∧
      strikesOrShifts .s1 (.sending ⟨.strike .s1 1 69, relayed, 2⟩) = true ∧ strikesOrShifts .s1 ready.tx.state = false ∧
      3 ≤ (3 : Byte).toNat ∧
      (let r := { StringRecord.default .s1 with outputMode := .muted }
       r.bytes.length = 43 ∧ OutputMode.ofCode (byteAt r.bytes 1) = some .muted ∧ SampleMode.ofCode (byteAt r.bytes 2) = some r.sampleMode ∧
         (readString .muted r.sampleMode r.bytes).enable = (ready.record .s1).enable ∧
         ((withRecord r .powerOn).record .s1).outputMode = .muted) ∧
      ((0 : Byte) = 0 ∧ 7 ≤ (7 : Byte).toNat ∧ ([1] : List Byte).length ≠ 2 ∧ ([] : List Byte).length ≠ 1) := by decide +kernel

/-- Hypotheses of ClearRecoversFaultedString and DampForcesNoteToEnd, state by state. -/
theorem witness_ClearRecoversFaultedString :
    let r := StringRecord.default .s1
    (faulted .faultLatched).state.faulted = true ∧ conditionPresent r (faulted .faultLatched).monitor = none ∧
      conditionPresent r { (faulted .faultLatched).monitor with clipRun := 32 } = some .clip ∧
      StringUnit.powerOn.state.faulted = false := by decide +kernel

theorem witness_DampForcesNoteToEnd :
    attacking.state = .attack ∧ (sounding true).state = .sounding ∧ (sounding false).context = .struck (noteOne false) ∧
      (noteOne true).announced = true ∧ seven.length ≤ 7 ∧ (sounding true).accepts (ready.record .s1).outputMode = true ∧
      damped.state = .damped ∧ StringUnit.powerOn.state = .idle := by decide

/-- Hypotheses of CountersReadAndCleared. -/
theorem witness_CountersReadAndCleared : ready.Serves ∧ 2 ≤ (2 : Byte).toNat ∧ 7 ≤ (7 : Byte).toNat ∧ ([0] : List Byte).length ≠ 2 :=
  ⟨⟨rfl, by decide⟩, by decide, by decide, by decide⟩

/-- Hypotheses of ResetsReachEveryBlock: a part with three answers, its clock PRESENT or ABSENT, whose first string, late, has a lock
due with a zone for it. -/
theorem witness_ResetsReachEveryBlock :
    let s := { withFirst (locking attacking) with answers := List.replicate 3 relayed }
    let order : ResetOrder := { late := ⟨true, false, false, false, false, false⟩, meanwhile := [.event .s1 .lock] }
    (s.answers.length ≤ 3 ∧ s.synth.clock = .present ∧ ({ s with synth := State.reset.synth } : State).synth.clock = .absent) ∧
      (∀ n, { (s.unit n).due with report := none, lock := none } = Due.none) ∧ ¬ s.tx.CompletionDue ∧
      (order.meanwhile = [.event .s1 .lock] ∧ order.late.get .s1 = true ∧ ({} : ResetOrder).meanwhile = []) ∧
      ((s.unit .s1).due.lock = some report ∧ (s.unit .s1).state = .attack ∧ (s.unit .s1).context = .pending (.running 1)) ∧
      (zoneSearch s.tables.zones (s.record .s1).zoneHead (rawNote (pitchOf s.tables.device report.period))).isSome = true ∧
      (0 : Byte) ≠ 1 ∧ (3 : Byte) ≠ 2 := by
  refine ⟨⟨by decide, rfl, rfl⟩, fun n => by cases n <;> rfl, fun ⟨_, h, _⟩ => (nomatch h), ⟨rfl, rfl, rfl⟩, ⟨rfl, rfl, rfl⟩,
    by decide +kernel, by decide, by decide⟩

/-! ### Steps of the part -/

/-- R35: power-on from a part that plays gives the power-on state, but for what is the model's own. -/
theorem test_power_on : exec .powerOn playing = .next { State.reset with pending := playing.pending } := rfl

/-- R21: a frame whose first string stands at A attacks. -/
theorem test_frame_attacks : (match exec (.pickupForwardFrame (some (syncPattern ++ BitVec.ofInt 24 40000 ++ 0#216)) {}) ready with
    | .next t => (t.unit .s1).state == .attack && t.index == 1 && t.store.fill == 1
    | _ => false) = true := by decide +kernel

/-- R163: the third bad frame discards and enters HUNT; the announced note is lifted with cause LINK. -/
theorem test_third_bad_frame : (match exec (.pickupForwardFrame (some 0) {})
      { withFirst (sounding true) with pickup := ⟨⟨.sync, 0, 2⟩, none, .ready⟩, index := 7 } with
    | .next t => t.pickup.receiver.state == .hunt && (t.unit .s1).queue == [.lift 7 .link] && t.index == 7
    | _ => false) = true := by decide +kernel

/-- R69: a jump reported before the third bad frame and taken before the entry to HUNT leaves its SHIFT; taken after it, it leaves
none, as if it had not been made. -/
theorem test_report_at_hunt_entry :
    let after := fun (entryFirst : Bool) (s : State) => s.pickupFrame (some 0) { entryFirst := ⟨entryFirst, false, false, false, false, false⟩ }
    ((after false (reported (.jump 421888))).unit .s1).queue = [.shift 1 70 5 false false, .lift 0 .link] ∧
      ((after true (reported (.jump 421888))).unit .s1).queue = [.lift 0 .link] ∧
      after true (reported (.jump 421888)) = after true ((reported (.jump 421888)).setUnit .s1 (sounding true)) := by decide +kernel

/-- R33: a frame that makes DAMP_EXIT due is judged by the record that stood when it arrived: a PUT of a release threshold of 1 before
the step does not keep the string DAMPED. -/
theorem test_damp_exit_after_put : (match exec (.pickupForwardFrame (some goodFrame) { hold := true }) (withFirst damped) with
    | .next t => match exec (.put ([9, 2, 1] ++ ({ StringRecord.default .s1 with releaseThreshold := 1 } : StringRecord).bytes)) t with
      | .next v => match exec (.dampExit .s1) v with
        | .next w => (v.record .s1).releaseThreshold == 1 && (v.unit .s1).state == .damped && (w.unit .s1).state == .idle
        | _ => false
      | _ => false
    | _ => false) = true := by decide +kernel

/-- R14 and R103: a DAMP inside a paused frame ends the note before its fault is judged. -/
theorem test_request_inside_frame : (match exec (.pickupForwardFrame (some goodFrame) { pause := true, acts := [.cancel] })
      (withFirst (sounding true)) with
    | .next t => match exec (.damp [7, 1]) t with
      | .next v => (v.unit .s1).state == .damped && v.inProcess.isSome && v.index == 1
      | _ => false
    | _ => false) = true := by decide +kernel

/-- R166: the synth frame of a PREFILL store carries the sync pattern, the flags and the IDLE tag. -/
theorem test_synth_frame : (match exec (.synthForwardFrame {}) ready with
    | .next t => t.synthOut == some (synthForwardFrame ⟨Six.same 0, 0⟩ true true .idle 0)
    | _ => false) = true := by decide +kernel

/-- Sections 10.7 and 11.2: a PUT of string record 3 with an attach threshold of 50,000 is answered CLAMPED. -/
theorem test_put_string_record : (match exec (.put ([9, 2, 3] ++ ({ StringRecord.default .s3 with
      attach := 50000, releaseThreshold := 60000, velocitySpan := 30000 } : StringRecord).bytes)) ready with
    | .next t => (t.record .s3).releaseThreshold == 49999 && (t.record .s3).velocitySpan == 50001 &&
        (t.answers.map fun a => a.getD 4 0) == [1]
    | _ => false) = true := by decide +kernel

/-- Section 6.9: a reset cuts the LIFT in flight and places RESET LIFTs for the open groups. -/
theorem test_reset_cuts : (match exec (.resetTracking 9 {}) { withFirst (sounding true) with
      tx := ⟨.sending ⟨.lift .s1, relayed, 2⟩, .s3, .s3, [.slip .drop 15]⟩ } with
    | .next t => t.tx.state == .aborting && t.tx.notices == [] && (t.unit .s1).queue == [.lift 0 .reset] &&
        (t.unit .s1).group == some ⟨1, 69⟩ && t.answers.length == 1
    | _ => false) = true := by decide +kernel

/-- R128: a reset that finds the clock ABSENT leaves ABORTING. -/
theorem test_reset_without_clock : (match exec (.resetTracking 9 {}) { ready with
      synth := ⟨.absent, ⟨.sync, 0, 0⟩, none⟩, tx := ⟨.sending ⟨.other, relayed, 0⟩, .s3, .s3, []⟩ } with
    | .next t => t.tx.state == .aborting && t.answers.length == 1
    | _ => false) = true := by decide +kernel

/-- R69 and R103: a jump reported before a re-attack and taken after it is discarded at the PENDING context. -/
theorem test_late_report_discarded :
    let u := { sounding true with context := .pending (.running 128), pitch := .none, state := .attack,
                                  due := { Due.none with report := some (.jump 422144, 5) } }
    takeReport Tables.default .s1 u = { u with due := Due.none } := by decide +kernel

/-- R127: a STRIKE that a late note engine offers during a reset is refused and not counted as lost; the note has no LIFT. -/
theorem test_lock_during_reset : (match exec (.resetTracking 9 {
      late := ⟨true, false, false, false, false, false⟩, meanwhile := [.event .s1 .lock] }) (withFirst (locking attacking)) with
    | .next t => (t.unit .s1).queue == [] && (t.unit .s1).counters.lost == 0 && (t.unit .s1).state == .idle
    | _ => false) = true := by decide +kernel

/-- R37: the count of samples runs on from 1,048,575 to 0. -/
theorem test_sample_count_wraps :
    (filterSample (.default .s1) 0 { Tracker.fresh .running with samples := 1048575 }).samples = 0 := by decide +kernel

/-- Section 10.8: a request that finds four answers is dropped and counted. -/
theorem test_full_answer_queue : (match exec (.status [1, 0]) { ready with answers := List.replicate 4 relayed } with
    | .next t => t.answers.length == 4 && t.link.requestsDropped == 1
    | _ => false) = true := by decide +kernel

end Sys2Proof.Tests
end

section
/-! Laws of the bleed canceller (chapter 1): what its rounding computes over ℚ, and the statement about the cancelled sample. -/

namespace Sys2Proof.Machine

/-- The integer quotient that `roundAway` takes of a magnitude is that magnitude's exact quotient rounded with halves upward. -/
theorem floor_div_add_half (m : Nat) {b : Nat} (hb : 0 < b) :
    ⌊(m : ℚ) / b + 1 / 2⌋ = (2 * (m : Int) + b) / (2 * b) := by
  have one_quotient : (m : ℚ) / b + 1 / 2 = ((2 * m + b : Int) : ℚ) / ((2 * b : Nat) : ℚ) := by
    push_cast
    field_simp
  rw [one_quotient, Rat.floor_intCast_div_natCast]
  push_cast
  rfl

/-- Halves away from zero: the magnitude is rounded with halves upward, and the sign put back. -/
theorem roundAway_eq_sign_mul_floor (a : Int) {b : Nat} (hb : 0 < b) :
    roundAway a b = a.sign * ⌊(a.natAbs : ℚ) / b + 1 / 2⌋ := by
  rw [floor_div_add_half _ hb, roundAway]
  rcases lt_trichotomy a 0 with neg | rfl | pos
  · rw [if_neg (not_le.mpr neg), Int.sign_eq_neg_one_of_neg neg, Int.ofNat_natAbs_of_nonpos neg.le, neg_one_mul]
  · have small : (b : Int) / (2 * b) = 0 := Int.ediv_eq_zero_of_lt (by omega) (by omega)
    simpa using small
  · rw [if_pos pos.le, Int.sign_eq_one_of_pos pos, Int.natAbs_of_nonneg pos.le, one_mul]

/-- R5: the division and the rounding act on the exact quotient. -/
theorem crosstalkTerm_eq_sign_mul_floor (c x : Int) :
    crosstalkTerm c x = (c * x).sign * ⌊((c * x).natAbs : ℚ) / 32768 + 1 / 2⌋ :=
  roundAway_eq_sign_mul_floor (c * x) (b := 32768) (by decide)

/-- R6: five terms, one for each other string. -/
theorem rowSum_eq_sum_others (n : StringNo) (row : CrosstalkRow) (x : Six Int) :
    rowSum n row x = ((StringNo.others n).map fun t => crosstalkTerm (row.get t) (x.get t)).sum := by
  cases n <;> simp [rowSum, rowTerm, StringNo.others, StringNo.all, add_assoc]

/-- One string's cancelled sample, from its own row and the neighbour samples of R4. -/
theorem get_cancel (matrix : Six CrosstalkRow) (states : Six StringState) (raw : Six Int) (n : StringNo) :
    (cancel matrix states raw).get n =
      saturate (raw.get n - rowSum n (matrix.get n) (Six.ofFn fun t => neighbour (states.get t) (raw.get t))) :=
  Six.get_ofFn _ n

/-- Settles O16: the model's integer rounding of each term is the exact quotient's rounding, and the own-string entry
drops out of the sum. -/
theorem cancelledSamplesExact : Obligations.CancelledSamplesExact := by
  intro matrix states raw n x term
  have each_term (t : StringNo) : crosstalkTerm ((matrix.get n).get t) (neighbour (states.get t) (raw.get t)) = term t :=
    crosstalkTerm_eq_sign_mul_floor _ _
  have exact_sum : rowSum n (matrix.get n) (Six.ofFn fun t => neighbour (states.get t) (raw.get t)) =
      ((StringNo.others n).map term).sum := by
    simp only [rowSum_eq_sum_others, Six.get_ofFn, each_term]
  rw [get_cancel, exact_sum]
  rfl

end Sys2Proof.Machine
end

section
/-! Laws of the pitch (R71 to R73): what the binary search for Q finds, the integer comparison as one of logarithms, and the
statement about Q and N_raw. -/

namespace Sys2Proof.Machine

/-- The search finds the top `z` of what `reaches` holds of, clamped to the range searched. -/
theorem greatestBelow_eq_clamp {reaches : Nat → Bool} {z : Int} (reaches_iff : ∀ q : Nat, reaches q = true ↔ (q : Int) ≤ z)
    (bits acc : Nat) : (greatestBelow reaches bits acc : Int) = max (acc : Int) (min ((acc : Int) + 2 ^ bits - 1) z) := by
  induction bits generalizing acc with
  | zero => simp [greatestBelow]
  | succ bits ih =>
    have half_pos : (0 : Int) < 2 ^ bits := by positivity
    have middle := reaches_iff (acc + 2 ^ bits)
    push_cast at middle
    rw [greatestBelow, ih, pow_succ]
    split_ifs with reached
    · have := middle.mp reached
      push_cast
      omega
    · have := mt middle.mpr reached
      omega

/-- A comparison of powers of two with a power of `x` between them is one of exponents. -/
theorem two_pow_le_two_pow_mul_pow_iff {x : ℝ} (hx : 0 < x) (a b n : Nat) :
    (2 : ℝ) ^ a ≤ 2 ^ b * x ^ n ↔ (a : ℝ) ≤ b + n * Real.logb 2 x := by
  have log_right : Real.logb 2 (2 ^ b * x ^ n) = b + n * Real.logb 2 x := by
    rw [Real.logb_mul (by positivity) (by positivity), Real.logb_pow, Real.logb_pow,
      Real.logb_self_eq_one one_lt_two, mul_one]
  rw [← log_right, Real.le_logb_iff_rpow_le one_lt_two (by positivity), Real.rpow_natCast]

/-- The integer comparison of the model, divided by the power of D: one of powers of the real quotient N / D of R71. -/
theorem pitchReaches_iff_pow_le {fs fA period : Nat} (hA : 0 < fA) (hT : 0 < period) (q : Nat) :
    pitchReaches fs fA period q = true ↔
      (2 : ℝ) ^ (2 * q) ≤ 2 ^ 8833 * (((fs * 409600 : Nat) : ℝ) / ((period * fA : Nat) : ℝ)) ^ 1536 := by
  have den_pos : (0 : ℝ) < ((period * fA : Nat) : ℝ) ^ 1536 := by positivity
  rw [pitchReaches, decide_eq_true_iff, div_pow, ← mul_div_assoc, le_div_iff₀ den_pos]
  norm_cast

/-- `pitchReaches` tells the whole numbers that do not exceed the value of R71 rounded with halves upward. -/
theorem pitchReaches_iff_le_floor {fs fA period : Nat} (hs : 0 < fs) (hA : 0 < fA) (hT : 0 < period) (q : Nat) :
    pitchReaches fs fA period q = true ↔
      (q : Int) ≤ ⌊(4416 + 768 * Real.logb 2 ((fs * 4096 : ℝ) / (period * ((fA : ℝ) / 100))) + 1 / 2 : ℝ)⌋ := by
  have quotient : (fs * 4096 : ℝ) / (period * ((fA : ℝ) / 100)) =
      ((fs * 409600 : Nat) : ℝ) / ((period * fA : Nat) : ℝ) := by
    push_cast
    field_simp
    norm_num
  rw [quotient, pitchReaches_iff_pow_le hA hT, two_pow_le_two_pow_mul_pow_iff (by positivity), Int.le_floor]
  push_cast
  constructor <;> intro h <;> linarith

/-- R73: the integer quotient is the floor of the exact one, and no Q gives a note below 0. -/
theorem rawNote_eq_clamp_floor (q : Nat) : (rawNote q : Int) = max 0 (min 127 ⌊((q : ℚ) + 32) / 64⌋) := by
  have quotient : ⌊((q : ℚ) + 32) / 64⌋ = ((q : Int) + 32) / 64 := by
    have exact_quotient := Rat.floor_intCast_div_natCast ((q : Int) + 32) 64
    push_cast at exact_quotient
    exact exact_quotient
  rw [quotient, rawNote]
  omega

/-- Settles O29: the search over 13 bits finds the rounded logarithm clamped to 0…8191. -/
theorem pitchIsRoundedLogarithm : Obligations.PitchIsRoundedLogarithm := by
  refine ⟨fun d period hs hA hT => ?_, rawNote_eq_clamp_floor⟩
  have found := greatestBelow_eq_clamp (pitchReaches_iff_le_floor hs hA hT) 13 0
  rw [pitchOf, found]
  norm_num

end Sys2Proof.Machine
end

section
/-! Laws of the string queues (R108, R109): one equation for each row of the admission table, and the statement about them. -/

namespace Sys2Proof.Machine

theorem StringUnit.accepts_eq_true_iff (u : StringUnit) (mode : OutputMode) :
    u.accepts mode = true ↔ mode ≠ .muted ∧ u.refusing = false := by
  simp [StringUnit.accepts]

section
variable {mode : OutputMode} {u : StringUnit}

/-! ### Where no offer is taken (R113, R127) -/

theorem offerStrike_of_not_accepts (refused : u.accepts mode = false)
    (record : NoteRecord) : offerStrike mode record u = (u, false) := if_pos refused

theorem offerShift_of_not_accepts (refused : u.accepts mode = false)
    (channel note : Nat) (stamp : Index) (correction : Bool) : offerShift mode channel note stamp correction u = u :=
  if_pos refused

theorem offerLift_of_not_accepts (refused : u.accepts mode = false)
    (stamp : Index) (cause : LiftCause) : offerLift mode stamp cause u = u := if_pos refused

/-! ### Where offers are taken: by kind and depth (R108, R112) -/

theorem offerStrike_of_length_le_six (accepted : u.accepts mode = true)
    (room : u.queue.length ≤ 6) (record : NoteRecord) :
    offerStrike mode record u = ({ u with queue := u.queue ++ [record] }, true) := by
  simp [offerStrike, accepted, room]

theorem offerStrike_of_seven_le_length (accepted : u.accepts mode = true)
    (full : 7 ≤ u.queue.length) (record : NoteRecord) :
    offerStrike mode record u = ({ u with counters := { u.counters with lost := bump u.counters.lost } }, false) := by
  simp [offerStrike, accepted, Nat.not_le_of_lt full]

theorem offerShift_of_length_le_six (accepted : u.accepts mode = true)
    (room : u.queue.length ≤ 6) (channel note : Nat) (stamp : Index) (correction : Bool) :
    offerShift mode channel note stamp correction u =
      { u with queue := u.queue ++ [.shift channel note stamp correction false] } := by
  simp [offerShift, accepted, room]

theorem offerShift_of_eight_le_length (accepted : u.accepts mode = true)
    (full : 8 ≤ u.queue.length) (channel note : Nat) (stamp : Index) (correction : Bool) :
    offerShift mode channel note stamp correction u = dropShift u := by
  have above_six : ¬ u.queue.length ≤ 6 := by omega
  have not_seven : u.queue.length ≠ 7 := by omega
  simp [offerShift, accepted, above_six, not_seven]

theorem offerLift_of_length_le_seven (accepted : u.accepts mode = true)
    (room : u.queue.length ≤ 7) (stamp : Index) (cause : LiftCause) :
    offerLift mode stamp cause u = { u with queue := u.queue ++ [.lift stamp cause], glide := none, press := none } := by
  simp [offerLift, accepted, room]

theorem offerLift_of_eight_le_length (full : 8 ≤ u.queue.length)
    (stamp : Index) (cause : LiftCause) : offerLift mode stamp cause u = u := by
  simp [offerLift, Nat.not_le_of_lt full]

/-! ### A SHIFT at a queue of 7: by its tail (R109) -/

theorem mergeQueue_append_singleton (note : Nat) (correction : Bool) (front : List NoteRecord) (tail : NoteRecord) :
    mergeQueue note correction (front ++ [tail]) = (mergedTail note correction tail).map fun t => front ++ [t] := by
  simp [mergeQueue]

/-- Depth 7 leaves the choice to the tail: what `mergedTail` makes of it replaces it, and where it makes nothing the SHIFT is
dropped. -/
theorem offerShift_of_length_seven (accepted : u.accepts mode = true)
    {front : List NoteRecord} {tail : NoteRecord} (split_queue : u.queue = front ++ [tail]) (six : front.length = 6)
    (channel note : Nat) (stamp : Index) (correction : Bool) :
    offerShift mode channel note stamp correction u =
      (mergedTail note correction tail).elim (dropShift u) fun t =>
        { u with queue := front ++ [t], counters := { u.counters with merged := bump u.counters.merged } } := by
  have seven : u.queue.length = 7 := by simp [split_queue, six]
  have merge : mergeQueue note correction u.queue = (mergedTail note correction tail).map fun t => front ++ [t] := by
    rw [split_queue, mergeQueue_append_singleton]
  cases outcome : mergedTail note correction tail <;> simp [offerShift, accepted, seven, merge, outcome]

end

/-- Settles O36: each conjunct is a row of the admission table; at depth 7 the tail's kind picks the merge or the drop. -/
theorem queueAdmission : Obligations.QueueAdmission := by
  intro mode record channel note stamp correction cause u lost merged
  have shift_at_seven (accepted : u.accepts mode = true) {front tail} (split_queue : u.queue = front ++ [tail])
      (six : front.length = 6) := offerShift_of_length_seven accepted split_queue six channel note stamp correction
  refine ⟨u.accepts_eq_true_iff mode, fun refused => ⟨?_, ?_, ?_⟩, fun accepted =>
    ⟨fun room => ⟨?_, ?_⟩, fun full => ?_, fun front c n v st p m strike_tail six => ?_,
      fun front c n st corr m shift_tail six => ?_, fun front st ca lift_tail six => ?_, fun full => ?_, fun room => ?_,
      fun full => ?_⟩⟩
  · exact offerStrike_of_not_accepts refused record
  · exact offerShift_of_not_accepts refused channel note stamp correction
  · exact offerLift_of_not_accepts refused stamp cause
  · exact offerStrike_of_length_le_six accepted room record
  · exact offerShift_of_length_le_six accepted room channel note stamp correction
  · exact offerStrike_of_seven_le_length accepted full record
  · exact shift_at_seven accepted strike_tail six
  · exact shift_at_seven accepted shift_tail six
  · exact shift_at_seven accepted lift_tail six
  · exact offerShift_of_eight_le_length accepted full channel note stamp correction
  · exact offerLift_of_length_le_seven accepted room stamp cause
  · exact offerLift_of_eight_le_length full stamp cause

end Sys2Proof.Machine
end

section
/-! What one event of a string does to the string's own unit, and which notice it offers; what each act of a frame does to the part. -/

namespace Sys2Proof.Machine

/-! ### Events, as work on one unit -/

/-- FAULT_ENTRY on the unit alone (R31, R134, R135). -/
def faultEntryUnit (r : StringRecord) (u : StringUnit) : StringUnit :=
  match u.due.fault with
  | none => u
  | some (cause, stamp) =>
    let v := { u with due := { u.due with fault := none } }
    match u.state with
    | .idle | .attack | .sounding | .damped => enterFault r cause stamp v
    | .off | .faultWait | .faultTest | .faultLatched => v

/-- RECOVERY on the unit alone (R138). -/
def recoveryUnit (u : StringUnit) : StringUnit :=
  if u.due.recovery then
    let v := { u with due := { u.due with recovery := false } }
    if u.state = .faultTest ∧ u.monitor.test = 0 then recoverString v else v
  else u

/-- What an event of string `n` makes of the string's unit. -/
def unitEvent (tb : Tables) (n : StringNo) (e : Event) (u : StringUnit) : StringUnit :=
  match e with
  | .report => takeReport tb n u
  | .release => takeRelease (tb.strings.get n) u
  | .strikeDeadlineExpiry => takeExpiry tb n u
  | .dampExit => takeDampExit u
  | .staleCrossing => takeStale u
  | .lockLoss => takeLockLoss u
  | .lock => takeLock tb n u
  | .faultEntry => faultEntryUnit (tb.strings.get n) u
  | .faultWaitEnd => takeWaitEnd (tb.strings.get n) u
  | .recovery => recoveryUnit u

/-- The notice that an event of string `n` offers: FAULT at a fault entry taken, RECOVER at a recovery taken (R134, R138). -/
def eventNotice (n : StringNo) (e : Event) (u : StringUnit) : Option Notice :=
  match e with
  | .faultEntry =>
    match u.state with
    | .idle | .attack | .sounding | .damped => u.due.fault.map fun c => .fault n c.1
    | .off | .faultWait | .faultTest | .faultLatched => none
  | .recovery => if u.due.recovery ∧ u.state = .faultTest ∧ u.monitor.test = 0 then some (.recover n) else none
  | _ => none

/-- A notice offered, where there is one. -/
def State.offerSome (s : State) (notice : Option Notice) : State := notice.elim s s.offerNotice

@[simp] theorem State.offerSome_none (s : State) : s.offerSome none = s := rfl
@[simp] theorem State.offerSome_some (s : State) (notice : Notice) : s.offerSome (some notice) = s.offerNotice notice := rfl

/-- An event is its work on the unit and its notice. -/
theorem State.takeEvent_eq (n : StringNo) (e : Event) (s : State) :
    s.takeEvent n e = (s.setUnit n (unitEvent s.tables n e (s.unit n))).offerSome (eventNotice n e (s.unit n)) := by
  cases e
  case faultEntry =>
    simp only [State.takeEvent, takeFaultEntry, unitEvent, faultEntryUnit, eventNotice]
    cases (s.unit n).due.fault with
    | none => cases (s.unit n).state <;> simp
    | some c => cases h : (s.unit n).state <;> simp [State.modUnit, State.record, h]
  case recovery =>
    simp only [State.takeEvent, takeRecovery, unitEvent, recoveryUnit, eventNotice]
    by_cases due : (s.unit n).due.recovery = true
    · by_cases ended : (s.unit n).state = .faultTest ∧ (s.unit n).monitor.test = 0
      · simp [due, ended, State.modUnit]
      · simp [due, ended, State.modUnit]
    · simp [due]
  all_goals rfl

/-- What an event keeps: whatever its unit's work keeps, and a notice keeps. -/
theorem State.takeEvent_keeps {P : State → Prop} (notice : ∀ s x, P s → P (s.offerNotice x)) (n : StringNo) (e : Event) (s : State)
    (h : P (s.setUnit n (unitEvent s.tables n e (s.unit n)))) : P (s.takeEvent n e) := by
  rw [s.takeEvent_eq n e]
  cases eventNotice n e (s.unit n) with
  | none => exact h
  | some x => exact notice _ x h

@[simp] theorem State.takeEvent_tables (n : StringNo) (e : Event) (s : State) : (s.takeEvent n e).tables = s.tables :=
  State.takeEvent_keeps (P := fun t => t.tables = s.tables) (by simp) n e s rfl
@[simp] theorem State.takeEvent_index (n : StringNo) (e : Event) (s : State) : (s.takeEvent n e).index = s.index :=
  State.takeEvent_keeps (P := fun t => t.index = s.index) (by simp) n e s rfl
@[simp] theorem State.takeEvent_store (n : StringNo) (e : Event) (s : State) : (s.takeEvent n e).store = s.store :=
  State.takeEvent_keeps (P := fun t => t.store = s.store) (by simp) n e s rfl
@[simp] theorem State.takeEvent_inProcess (n : StringNo) (e : Event) (s : State) : (s.takeEvent n e).inProcess = s.inProcess :=
  State.takeEvent_keeps (P := fun t => t.inProcess = s.inProcess) (by simp) n e s rfl
@[simp] theorem State.takeEvent_pickup (n : StringNo) (e : Event) (s : State) : (s.takeEvent n e).pickup = s.pickup :=
  State.takeEvent_keeps (P := fun t => t.pickup = s.pickup) (by simp) n e s rfl
@[simp] theorem State.takeEvent_synth (n : StringNo) (e : Event) (s : State) : (s.takeEvent n e).synth = s.synth :=
  State.takeEvent_keeps (P := fun t => t.synth = s.synth) (by simp) n e s rfl
@[simp] theorem State.takeEvent_answers (n : StringNo) (e : Event) (s : State) : (s.takeEvent n e).answers = s.answers :=
  State.takeEvent_keeps (P := fun t => t.answers = s.answers) (by simp) n e s rfl
@[simp] theorem State.takeEvent_tx_state (n : StringNo) (e : Event) (s : State) : (s.takeEvent n e).tx.state = s.tx.state :=
  State.takeEvent_keeps (P := fun t => t.tx.state = s.tx.state) (by simp) n e s rfl
@[simp] theorem State.takeEvent_pending (n : StringNo) (e : Event) (s : State) : (s.takeEvent n e).pending = s.pending :=
  State.takeEvent_keeps (P := fun t => t.pending = s.pending) (by simp) n e s rfl

theorem State.unit_offerSome (s : State) (x : Option Notice) (n : StringNo) : (s.offerSome x).unit n = s.unit n := by
  cases x <;> simp

/-- An event reaches its own string's unit alone. -/
theorem State.unit_takeEvent (n m : StringNo) (e : Event) (s : State) :
    (s.takeEvent n e).unit m = if m = n then unitEvent s.tables n e (s.unit n) else s.unit m := by
  rw [s.takeEvent_eq n e, State.unit_offerSome, State.unit_setUnit]

/-! ### Acts -/

/-- Everything that an act of a frame can do to the part: nothing, a record for the store, a sample for one block of one string, or
events taken. -/
theorem runAct_cases (w : Work) (s : State) (act : FrameAct) :
    (runAct (w, s) act).2 = s ∨
    (act = .store ∧ w.offered = false ∧
      (runAct (w, s) act).2 = s.offerRecord (s.frameRecord w.raw (w.cancelled s) w.index)) ∨
    (∃ n, act = .envelope n ∧
      (runAct (w, s) act).2 = s.modUnit n (envelopeSample (s.record n) ((w.cancelled s).get n) w.index)) ∨
    (∃ n, act = .tracker n ∧ (runAct (w, s) act).2 = s.modUnit n (trackerSample s.tables n ((w.cancelled s).get n) w.index)) ∨
    (∃ n, act = .monitor n ∧
      (runAct (w, s) act).2 = s.modUnit n (monitorSample (s.record n) (w.raw.get n) (w.flags.get n) w.index)) ∨
    (∃ n e, act = .take n e ∧ (runAct (w, s) act).2 = s.takeEvent n e) ∨
    ∃ n, act = .settle n ∧ (runAct (w, s) act).2 = s.settle n := by
  cases act with
  | cancel => exact .inl rfl
  | store =>
    cases offered : w.offered
    · exact .inr (.inl ⟨rfl, rfl, by simp [runAct, offered]⟩)
    · exact .inl (by simp [runAct, offered])
  | envelope n =>
    cases taken : w.enveloped.get n
    · exact .inr (.inr (.inl ⟨n, rfl, by simp [runAct, taken]⟩))
    · exact .inl (by simp [runAct, taken])
  | tracker n =>
    cases taken : w.tracked.get n
    · exact .inr (.inr (.inr (.inl ⟨n, rfl, by simp [runAct, taken]⟩)))
    · exact .inl (by simp [runAct, taken])
  | monitor n =>
    cases taken : w.monitored.get n
    · exact .inr (.inr (.inr (.inr (.inl ⟨n, rfl, by simp [runAct, taken]⟩))))
    · exact .inl (by simp [runAct, taken])
  | take n e => exact .inr (.inr (.inr (.inr (.inr (.inl ⟨n, e, rfl, rfl⟩)))))
  | settle n => exact .inr (.inr (.inr (.inr (.inr (.inr ⟨n, rfl, rfl⟩)))))

/-- No act touches the pickup link. -/
theorem runAct_pickup (ws : Work × State) (act : FrameAct) : (runAct ws act).2.pickup = ws.2.pickup := by
  obtain ⟨w, s⟩ := ws
  rcases runAct_cases w s act with h | ⟨-, -, h⟩ | ⟨n, -, h⟩ | ⟨n, -, h⟩ | ⟨n, -, h⟩ | ⟨n, e, -, h⟩ | ⟨n, -, h⟩ <;> rw [h]
  · simp
  · simp
  · simp
  · simp
  · simp
  · exact s.settle_keeps (P := fun t => t.pickup = s.pickup) n (fun t e ht => (t.takeEvent_pickup n e).trans ht) rfl

end Sys2Proof.Machine
end

section
/-! What a pickup frame time keeps. The envelope units take samples in SYNC alone (R34, R162), so what the parts of the work on a
frame have to keep is asked of the envelope units in SYNC, and of the other blocks in either state of the receiver. -/

namespace Sys2Proof.Machine

/-! ### Counters (R185) -/

theorem bump_le (c : Nat) : bump c ≤ 65535 := Nat.min_le_left _ _

theorem LinkCounters.Saturated.pickupSyncLosses {l : LinkCounters} (h : l.Saturated) :
    ({ l with pickupSyncLosses := bump l.pickupSyncLosses } : LinkCounters).Saturated := by
  simp only [LinkCounters.Saturated, bump] at h ⊢; omega
theorem LinkCounters.Saturated.synthSyncLosses {l : LinkCounters} (h : l.Saturated) :
    ({ l with synthSyncLosses := bump l.synthSyncLosses } : LinkCounters).Saturated := by
  simp only [LinkCounters.Saturated, bump] at h ⊢; omega
theorem LinkCounters.Saturated.badCrc {l : LinkCounters} (h : l.Saturated) :
    ({ l with badCrc := bump l.badCrc } : LinkCounters).Saturated := by
  simp only [LinkCounters.Saturated, bump] at h ⊢; omega
theorem LinkCounters.Saturated.short {l : LinkCounters} (h : l.Saturated) :
    ({ l with short := bump l.short } : LinkCounters).Saturated := by
  simp only [LinkCounters.Saturated, bump] at h ⊢; omega
theorem LinkCounters.Saturated.long {l : LinkCounters} (h : l.Saturated) :
    ({ l with long := bump l.long } : LinkCounters).Saturated := by
  simp only [LinkCounters.Saturated, bump] at h ⊢; omega
theorem LinkCounters.Saturated.aborts {l : LinkCounters} (h : l.Saturated) :
    ({ l with aborts := bump l.aborts } : LinkCounters).Saturated := by
  simp only [LinkCounters.Saturated, bump] at h ⊢; omega
theorem LinkCounters.Saturated.badAddress {l : LinkCounters} (h : l.Saturated) :
    ({ l with badAddress := bump l.badAddress } : LinkCounters).Saturated := by
  simp only [LinkCounters.Saturated, bump] at h ⊢; omega
theorem LinkCounters.Saturated.relayDrops {l : LinkCounters} (h : l.Saturated) :
    ({ l with relayDrops := bump l.relayDrops } : LinkCounters).Saturated := by
  simp only [LinkCounters.Saturated, bump] at h ⊢; omega
theorem LinkCounters.Saturated.requestsDropped {l : LinkCounters} (h : l.Saturated) :
    ({ l with requestsDropped := bump l.requestsDropped } : LinkCounters).Saturated := by
  simp only [LinkCounters.Saturated, bump] at h ⊢; omega
theorem LinkCounters.Saturated.noticesLost {l : LinkCounters} (h : l.Saturated) :
    ({ l with noticesLost := bump l.noticesLost } : LinkCounters).Saturated := by
  simp only [LinkCounters.Saturated, bump] at h ⊢; omega
theorem LinkCounters.Saturated.repeatSlips {l : LinkCounters} (h : l.Saturated) :
    ({ l with repeatSlips := bump l.repeatSlips } : LinkCounters).Saturated := by
  simp only [LinkCounters.Saturated, bump] at h ⊢; omega
theorem LinkCounters.Saturated.dropSlips {l : LinkCounters} (h : l.Saturated) :
    ({ l with dropSlips := bump l.dropSlips } : LinkCounters).Saturated := by
  simp only [LinkCounters.Saturated, bump] at h ⊢; omega

/-- A message that fails a check leaves one of the link counters up by one, which saturates. -/
theorem State.checkMessage_counts (m : List Byte) (s : State) :
    (4 ≤ m.length ∧ m.length ≤ 64 ∧ crcGood m = true ∧ s.checkMessage m = (s, some m)) ∨
    ∃ link, (s.link.Saturated → link.Saturated) ∧ s.checkMessage m = ({ s with link := link }, none) := by
  rcases s.checkMessage_cases m with ⟨-, e⟩ | ⟨-, e⟩ | ⟨four, fits, good, e⟩ | ⟨-, -, -, e⟩
  · exact .inr ⟨_, LinkCounters.Saturated.long, e⟩
  · exact .inr ⟨_, LinkCounters.Saturated.short, e⟩
  · exact .inl ⟨four, fits, good, e⟩
  · exact .inr ⟨_, LinkCounters.Saturated.badCrc, e⟩

/-- Everything that a message completed on the pickup forward receiver can do: a counter up, or a place in relay-down. -/
theorem State.converterMessage_cases (m : List Byte) (s : State) :
    (∃ link, (s.link.Saturated → link.Saturated) ∧ s.converterMessage m = { s with link := link }) ∨
    (s.relayDown.length ≤ 1 ∧ crcGood m = true ∧ s.converterMessage m = { s with relayDown := s.relayDown ++ [m] }) := by
  unfold State.converterMessage
  rcases s.checkMessage_counts m with ⟨-, -, good, e⟩ | ⟨link, saturated, e⟩ <;> rw [e]
  · rcases s.offerDown_cases m with ⟨room, e⟩ | ⟨-, e⟩
    · exact .inr ⟨room, good, e⟩
    · exact .inl ⟨_, LinkCounters.Saturated.relayDrops, e⟩
  · exact .inl ⟨link, saturated, rfl⟩

/-! ### The judgement of a frame time -/

/-- An accepted frame: the receiver is in SYNC, no entry is due, and only its bad-sync run has changed (R162). -/
theorem State.judgePickup_of_taken (good hold : Bool) (s : State) (taken : (s.judgePickup good hold).2 = true) :
    (s.judgePickup good hold).1 =
        { s with pickup := { s.pickup with receiver := (s.pickup.receiver.judge good).1 } } ∧
      (s.pickup.receiver.judge good).1.state = .sync := by
  have accepted : (s.pickup.receiver.judge good).2 = true := taken
  have in_sync := Receiver.judge_taken good _ accepted
  have after_sync : (s.pickup.receiver.judge good).1.state = .sync := (Receiver.judge_state good _).trans in_sync
  refine ⟨?_, after_sync⟩
  have below : (s.pickup.receiver.judge good).1.bad < 3 := by
    rcases s.pickup.receiver.judge_cases good with ⟨_, e⟩ | ⟨_, _, e⟩ | ⟨_, _, e⟩ <;> rw [e] at accepted ⊢
    · cases accepted
    · simp
    · simpa using accepted
  have no_entry : ¬ (s.pickup.receiver.judge good).1.huntDue = true := by
    rw [Receiver.huntDue_iff]; omega
  cases hold
  · simp only [State.judgePickup, State.settlePickup, after_sync, State.takePickupHunt, no_entry, Bool.false_eq_true, ↓reduceIte]
  · rfl

/-! ### Parts that keep a predicate -/

/-- What the parts of a pickup frame time keep. -/
structure FrameKept (P : State → Prop) : Prop where
  store : ∀ s record, P s → P (s.offerRecord record)
  envelope : ∀ (s : State) n y index, s.pickup.receiver.state = .sync → P s →
    P (s.modUnit n (envelopeSample (s.record n) y index))
  tracker : ∀ (s : State) n y index, P s → P (s.modUnit n (trackerSample s.tables n y index))
  monitor : ∀ (s : State) n x flag index, P s → P (s.modUnit n (monitorSample (s.record n) x flag index))
  event : ∀ (s : State) n e, P s → P (s.takeEvent n e)
  place : ∀ (s : State) work, P s → P { s with inProcess := work }
  huntEntry : ∀ s, P s → P s.takePickupHunt
  syncEntry : ∀ s, P s → P s.takePickupSync
  judged : ∀ (s : State) good drawn, P s → P
    { s with
      pickup := { s.pickup with receiver := (s.pickup.receiver.judge good).1 }
      drawn := drawn
      pickupOut := none }
  counted : ∀ s, P s → P { s with index := s.index + 1 }
  sideByte : ∀ s tag b, P s → P (s.pickupSideByte tag b)
  returned : ∀ s, P s → P s.sendReturnFrame

section
variable {P : State → Prop}

theorem FrameKept.settle (k : FrameKept P) (n : StringNo) (s : State) (h : P s) : P (s.settle n) :=
  s.settle_keeps n (fun s e => k.event s n e) h

/-- An act keeps what the parts keep, if it is no envelope unit's or the receiver is in SYNC. -/
theorem FrameKept.act (k : FrameKept P) (ws : Work × State) (act : FrameAct)
    (allowed : ws.2.pickup.receiver.state = .sync ∨ ∀ n, act ≠ .envelope n) (h : P ws.2) : P (runAct ws act).2 := by
  obtain ⟨w, s⟩ := ws
  rcases runAct_cases w s act with e | ⟨-, -, e⟩ | ⟨n, enveloped, e⟩ | ⟨n, -, e⟩ | ⟨n, -, e⟩ | ⟨n, v, -, e⟩ | ⟨n, -, e⟩ <;> rw [e]
  · exact h
  · exact k.store s _ h
  · exact k.envelope s n _ _ (allowed.resolve_right fun other => other n enveloped) h
  · exact k.tracker s n _ _ h
  · exact k.monitor s n _ _ _ h
  · exact k.event s n v h
  · exact k.settle n s h

/-- A run of acts keeps what the parts keep, in SYNC or without an envelope unit's act. -/
theorem FrameKept.runFrame (k : FrameKept P) (w : Work) (acts : List FrameAct) (s : State)
    (allowed : s.pickup.receiver.state = .sync ∨ ∀ a ∈ acts, ∀ n, a ≠ .envelope n) (h : P s) : P (s.runFrame w acts) := by
  have each : ∀ (acts : List FrameAct) (ws : Work × State),
      (ws.2.pickup.receiver.state = .sync ∨ ∀ a ∈ acts, ∀ n, a ≠ .envelope n) → P ws.2 → P (acts.foldl runAct ws).2 := by
    intro acts
    induction acts with
    | nil => intro ws _ h; exact h
    | cons a acts ih =>
      intro ws allowed h
      refine ih _ ?_ (k.act ws a (allowed.imp_right fun other => other a (by simp)) h)
      rw [runAct_pickup]
      exact allowed.imp_right fun other b hb => other b (by simp [hb])
  exact k.place _ _ (each acts (w, s) allowed h)

theorem FrameKept.settlePickup (k : FrameKept P) (s : State) (h : P s) : P s.settlePickup := by
  unfold State.settlePickup
  split
  · exact k.huntEntry s h
  · exact k.syncEntry s h

/-- What an earlier frame left in process is taken in SYNC alone. -/
theorem FrameKept.resume (k : FrameKept P) (before : List FrameAct) (waits : Six Bool) (s : State) (h : P s) :
    P (s.resume before waits) := by
  unfold State.resume
  split
  · next in_sync => exact k.runFrame _ _ s (.inl in_sync) h
  · exact h

theorem FrameKept.runLeft (k : FrameKept P) (acts : List FrameAct) (no_envelope : ∀ a ∈ acts, ∀ n, a ≠ .envelope n) (s : State)
    (h : P s) : P (s.runLeft acts) := by
  unfold State.runLeft
  split
  · exact h
  · exact k.runFrame _ _ s (.inr no_envelope) h

theorem FrameKept.finishLeft (k : FrameKept P) (waitsOn : Bool) (s : State) (h : P s) : P (s.finishLeft waitsOn) := by
  have stored := k.runLeft [.store] (by simp) s h
  unfold State.finishLeft
  split
  · exact stored
  · exact State.settleAll_keeps k.event _ (k.runLeft _ (by simp [StringNo.all]) _ stored)

/-- What waits for the judgement of a frame time touches no link. -/
theorem State.finishLeft_pickup (waitsOn : Bool) (s : State) : (s.finishLeft waitsOn).pickup = s.pickup := by
  have left : ∀ (t : State) acts, t.pickup = s.pickup → (t.runLeft acts).pickup = s.pickup := by
    intro t acts h
    unfold State.runLeft
    split
    · exact h
    · exact State.runFrame_keeps (P := fun t => t.pickup = s.pickup) (fun ws a e => (runAct_pickup ws a).trans e)
        (fun _ _ e => e) _ _ _ h
  unfold State.finishLeft
  split
  · exact left _ _ rfl
  · exact State.settleAll_keeps (P := fun t => t.pickup = s.pickup) (fun t n e h => (t.takeEvent_pickup n e).trans h) _
      (left _ _ (left _ _ rfl))

/-- A side byte keeps the receiver, whatever the message it completes. -/
theorem State.pickupSideByte_receiver (tag : Tag) (b : Byte) (s : State) :
    (s.pickupSideByte tag b).pickup.receiver = s.pickup.receiver := by
  unfold State.pickupSideByte
  generalize takeSideByte tag b s.pickup.side = taken
  obtain ⟨side, event⟩ := taken
  cases event with
  | complete m =>
    dsimp only
    rcases State.converterMessage_cases m { s with pickup := { s.pickup with side := side } } with ⟨_, -, e⟩ | ⟨-, -, e⟩ <;> rw [e]
  | _ => rfl

theorem State.sendReturnFrame_receiver (s : State) : s.sendReturnFrame.pickup.receiver = s.pickup.receiver := by
  unfold State.sendReturnFrame
  split <;> rfl

theorem FrameKept.acceptFrame (k : FrameKept P) (bits : FrameBits) (order : FrameOrder) (s : State)
    (in_sync : s.pickup.receiver.state = .sync) (h : P s) : P (s.acceptFrame bits order) := by
  refine k.runFrame _ _ _ (.inl ?_) (k.returned _ (k.sideByte _ _ _ (k.counted s h)))
  rw [State.sendReturnFrame_receiver, State.pickupSideByte_receiver]
  exact in_sync

/-- A pickup frame time keeps what its parts keep. -/
theorem FrameKept.pickupFrame (k : FrameKept P) (frame : Option FrameBits) (order : FrameOrder) (s : State) (h : P s) :
    P (s.pickupFrame frame order) := by
  have ready := k.settlePickup _ (State.settleBut_keeps k.event order.entryFirst _ (k.resume order.before order.entryFirst s h))
  unfold State.pickupFrame
  dsimp only
  generalize ((s.resume order.before order.entryFirst).settleBut order.entryFirst).settlePickup = t at ready
  generalize blank : ({ t with drawn := t.drawn + (if frame.isNone then 1 else 0), pickupOut := none } : State) = v
  have judged : P (v.judgePickup (frameGood frame) order.hold).1 := by
    have run : P { v with pickup := { v.pickup with receiver := (v.pickup.receiver.judge (frameGood frame)).1 } } := by
      rw [← blank]; exact k.judged t (frameGood frame) _ ready
    unfold State.judgePickup
    dsimp only
    split
    · exact run
    · exact k.settlePickup _ run
  split
  · next taken =>
    obtain ⟨e, after_sync⟩ := State.judgePickup_of_taken _ _ v taken
    refine k.acceptFrame _ _ _ ?_ (k.finishLeft _ _ judged)
    rw [State.finishLeft_pickup, e]
    exact after_sync
  · exact k.finishLeft _ _ judged

end

end Sys2Proof.Machine
end

section
/-! What a command keeps: the parts that the commands are made of, and the one induction over the command set. An invariant is then
kept by every step once each part keeps it. -/

namespace Sys2Proof.Machine

/-- What the parts of the commands keep. `written` speaks of a string record that a PUT reads or a MODE changes, which is sound where
the record before was. -/
structure StepKept (P : State → Prop) : Prop where
  powerOn : ∀ s, P s → P s.powerOn
  pickupFrame : ∀ s frame order, P s → P (s.pickupFrame frame order)
  event : ∀ s n e, P s → P (s.takeEvent n e)
  huntEntry : ∀ s, P s → P s.takePickupHunt
  syncEntry : ∀ s, P s → P s.takePickupSync
  link : ∀ (s : State) (link : LinkCounters), (s.link.Saturated → link.Saturated) → P s → P { s with link := link }
  relayedUp : ∀ (s : State) m, s.relayUp.length ≤ 1 → P s → P { s with relayUp := s.relayUp ++ [m] }
  relayedDown : ∀ (s : State) m, s.relayDown.length ≤ 1 → P s → P { s with relayDown := s.relayDown ++ [m] }
  complete : ∀ s, P s → P s.complete
  sideByte : ∀ s, P s → P s.sideByte.1
  readStore : ∀ s, P s → P s.readStore.1
  sent : ∀ (s : State) frame, P s → P { s with synthOut := frame }
  synthReceiver : ∀ (s : State) r, P s → P { s with synth := { s.synth with receiver := r } }
  synthSide : ∀ (s : State) side, ((SideReceiver.bytes s.synth.side).length ≤ 64 → (SideReceiver.bytes side).length ≤ 64) → P s →
    P { s with synth := { s.synth with side := side } }
  clockLost : ∀ s, P s → P s.clockLost
  clockReturn : ∀ s, P s → P s.clockReturn
  device : ∀ (s : State) bytes, P s → P { s with tables := { s.tables with device := readDevice bytes } }
  row : ∀ (s : State) n bytes, P s → P { s with tables := { s.tables with matrix := s.tables.matrix.set n (readRow n bytes) } }
  zone : ∀ (s : State) (i : Fin 32) mode bytes, P s →
    P { s with tables := { s.tables with zones := s.tables.zones.set i.val (readZone mode bytes) } }
  curve : ∀ (s : State) (i : Fin 4) bytes, P s →
    P { s with tables := { s.tables with curves := s.tables.curves.set i.val (readCurve bytes) } }
  written : ∀ (s : State) n r, (∃ output sample bytes, r = readString output sample bytes) ∨
      (∃ mode, r = { s.record n with outputMode := mode }) → P s → P (s.writeString n r)
  recovered : ∀ (s : State) n, (s.unit n).state.faulted = true → P s → P ((s.modUnit n recoverString).offerNotice (.recover n))
  damped : ∀ (s : State) n, P s → P (s.setUnit n (dampString (s.record n) s.index (s.unit n)).1)
  cleared : ∀ (s : State) n, P s → P (s.modUnit n fun u => { u with counters := .zero })
  answered : ∀ (s : State) kind tag reply, s.answers.length ≤ 3 → P s → P (s.answer kind tag reply)
  reset : ∀ (s : State) full tag order, s.answers.length ≤ 3 → P s → P (s.resetPart full tag order)

section
variable {P : State → Prop}

/-! ### Requests (R176 to R187) -/

/-- What a request's effect keeps: the predicate, and the answers that wait. -/
abbrev EffectKept (P : State → Prop) (effect : List Byte → State → State × Reply) : Prop :=
  ∀ body s, P s → P (effect body s).1 ∧ (effect body s).1.answers = s.answers

theorem StepKept.admitRequest (k : StepKept P) (execute : State → State) (s : State)
    (executed : s.answers.length ≤ 3 → P s → P (execute s)) (h : P s) : P (s.admitRequest execute) := by
  rcases s.admitRequest_cases execute with ⟨-, e⟩ | ⟨-, room, e⟩ | ⟨-, -, e⟩ <;> rw [e]
  · exact h
  · exact executed room h
  · exact k.link s _ LinkCounters.Saturated.requestsDropped h

theorem StepKept.takeRequest (k : StepKept P) (execute : State → State) (s : State)
    (executed : s.answers.length ≤ 3 → P s → P (execute s)) (h : P s) : P (s.takeRequest execute) := by
  rcases s.takeRequest_cases execute with ⟨room, e⟩ | ⟨-, e⟩ <;> rw [e]
  · exact executed room h
  · exact k.link s _ LinkCounters.Saturated.requestsDropped h

/-- A request is served: its effect, then its answer. -/
theorem StepKept.serve (k : StepKept P) {effect : List Byte → State → State × Reply} (kept : EffectKept P effect) (kind : Byte)
    (body : List Byte) (s : State) (h : P s) : P (s.serve kind body effect) := by
  refine k.admitRequest _ s (fun room h => ?_) h
  obtain ⟨after, answers⟩ := kept body s h
  exact k.answered _ _ _ _ (by rw [answers]; exact room) after

theorem StepKept.put (k : StepKept P) : EffectKept P putRequest := by
  intro body s h
  unfold putRequest
  split
  · split
    · exact ⟨h, rfl⟩
    · next name _ =>
      split
      · cases name with
        | device => exact ⟨k.device s _ h, rfl⟩
        | string n =>
          simp only [putRecord, putString]
          split
          · exact ⟨k.written s n _ (.inl ⟨_, _, _, rfl⟩) h, rfl⟩
          · exact ⟨h, rfl⟩
        | row n => exact ⟨k.row s n _ h, rfl⟩
        | zone i =>
          simp only [putRecord, putZone]
          split
          · exact ⟨k.zone s i _ _ h, rfl⟩
          · exact ⟨h, rfl⟩
        | curve i => exact ⟨k.curve s i _ h, rfl⟩
      · exact ⟨h, rfl⟩
  · exact ⟨h, rfl⟩

theorem EffectKept.get : EffectKept P getRequest := by
  intro body s h
  unfold getRequest
  split
  · split <;> exact ⟨h, rfl⟩
  · exact ⟨h, rfl⟩

theorem StepKept.mode (k : StepKept P) : EffectKept P modeRequest := by
  intro body s h
  unfold modeRequest
  split
  · split
    · exact ⟨h, rfl⟩
    · split
      · exact ⟨h, rfl⟩
      · exact ⟨k.written s _ _ (.inr ⟨_, rfl⟩) h, rfl⟩
  · exact ⟨h, rfl⟩

theorem StepKept.clear (k : StepKept P) : EffectKept P clearRequest := by
  intro body s h
  unfold clearRequest clearString
  split
  · split
    · exact ⟨h, rfl⟩
    · split
      · next faulted =>
        split
        · exact ⟨h, rfl⟩
        · exact ⟨k.recovered s _ faulted h, by simp⟩
      · exact ⟨h, rfl⟩
  · exact ⟨h, rfl⟩

theorem StepKept.damp (k : StepKept P) : EffectKept P dampRequest := by
  intro body s h
  unfold dampRequest
  split
  · split
    · exact ⟨h, rfl⟩
    · exact ⟨k.damped s _ h, rfl⟩
  · exact ⟨h, rfl⟩

theorem EffectKept.status : EffectKept P statusRequest := by
  intro body s h
  unfold statusRequest
  split
  · split
    · exact ⟨h, rfl⟩
    · split <;> exact ⟨h, rfl⟩
  · exact ⟨h, rfl⟩

theorem StepKept.counters (k : StepKept P) : EffectKept P countersRequest := by
  intro body s h
  unfold countersRequest
  split
  · split
    · split
      · split
        · exact ⟨k.link s .zero (fun _ => by decide) h, rfl⟩
        · exact ⟨h, rfl⟩
      · exact ⟨h, rfl⟩
    · split
      · exact ⟨h, rfl⟩
      · split
        · split
          · exact ⟨k.cleared s _ h, rfl⟩
          · exact ⟨h, rfl⟩
        · exact ⟨h, rfl⟩
  · exact ⟨h, rfl⟩

theorem EffectKept.badKind : EffectKept P badKindRequest := fun _ _ h => ⟨h, rfl⟩

theorem StepKept.resetRequest (k : StepKept P) (body : List Byte) (order : ResetOrder) (s : State) (h : P s) :
    P (s.resetRequest body order) := by
  unfold State.resetRequest
  split
  · split
    · exact k.takeRequest _ s (k.reset s _ _ _) h
    · split
      · exact k.takeRequest _ s (k.reset s _ _ _) h
      · exact k.admitRequest _ s (k.answered s _ _ _) h
  · exact k.admitRequest _ s (k.answered s _ _ _) h

theorem StepKept.request (k : StepKept P) (kind : Byte) (body : List Byte) (order : ResetOrder) (s : State) (h : P s) :
    P (s.request kind body order) := by
  unfold State.request
  repeat' split
  · exact k.serve k.put _ _ _ h
  · exact k.serve EffectKept.get _ _ _ h
  · exact k.serve k.mode _ _ _ h
  · exact k.serve k.clear _ _ _ h
  · exact k.serve k.damp _ _ _ h
  · exact k.serve EffectKept.status _ _ _ h
  · exact k.serve k.counters _ _ _ h
  · exact k.resetRequest _ _ _ h
  · exact k.serve EffectKept.badKind _ _ _ h

/-! ### The links -/

theorem StepKept.offerUp (k : StepKept P) (m : List Byte) (s : State) (h : P s) : P (s.offerUp m) := by
  rcases s.offerUp_cases m with ⟨room, e⟩ | ⟨-, e⟩ <;> rw [e]
  · exact k.relayedUp s m room h
  · exact k.link s _ LinkCounters.Saturated.relayDrops h

theorem StepKept.converterMessage (k : StepKept P) (m : List Byte) (s : State) (h : P s) : P (s.converterMessage m) := by
  rcases s.converterMessage_cases m with ⟨link, saturated, e⟩ | ⟨room, -, e⟩ <;> rw [e]
  · exact k.link s link saturated h
  · exact k.relayedDown s m room h

theorem StepKept.relayUpMessage (k : StepKept P) (m : List Byte) (s : State) (h : P s) : P (s.relayUpSide m) := by
  unfold State.relayUpSide
  split
  · exact k.offerUp m s h
  · exact k.offerUp m s h
  · exact h
  · exact k.link s _ LinkCounters.Saturated.badAddress h

theorem StepKept.returnMessage (k : StepKept P) (m : List Byte) (order : ReturnOrder) (s : State) (h : P s) :
    P (s.returnMessage m order) := by
  unfold State.returnMessage
  rcases s.checkMessage_counts m with ⟨-, -, -, e⟩ | ⟨link, saturated, e⟩ <;> rw [e]
  · dsimp only
    unfold State.deliver
    split
    · unfold State.allCall
      split
      · exact k.request _ _ _ _ (k.offerUp m s h)
      · exact k.offerUp m _ (k.request _ _ _ _ h)
    · exact k.request _ _ _ _ h
    · exact k.offerUp m s h
    · exact k.link s _ LinkCounters.Saturated.badAddress h
  · exact k.link s link saturated h

theorem StepKept.returnSideByte (k : StepKept P) (tag : Tag) (b : Byte) (order : ReturnOrder) (s : State) (h : P s) :
    P (s.returnSideByte tag b order) := by
  unfold State.returnSideByte
  have taken := k.synthSide s (takeSideByte tag b s.synth.side).1 (takeSideByte_length tag b s.synth.side) h
  generalize takeSideByte tag b s.synth.side = side at taken
  obtain ⟨side, event⟩ := side
  cases event with
  | none => exact taken
  | abort => exact k.link _ _ LinkCounters.Saturated.aborts taken
  | long => exact k.link _ _ LinkCounters.Saturated.long taken
  | complete m => exact k.returnMessage m order _ taken

theorem StepKept.takeSynthHunt (k : StepKept P) (s : State) (h : P s) : P s.takeSynthHunt := by
  unfold State.takeSynthHunt
  split
  · exact k.link _ _ LinkCounters.Saturated.synthSyncLosses
      (k.synthSide _ none (fun _ => by simp [SideReceiver.bytes]) (k.synthReceiver s s.synth.receiver.toHunt h))
  · exact h

theorem StepKept.takeSynthSync (k : StepKept P) (s : State) (h : P s) : P s.takeSynthSync := by
  unfold State.takeSynthSync
  split
  · exact k.synthReceiver s _ h
  · exact h

theorem StepKept.settleSynth (k : StepKept P) (s : State) (h : P s) : P s.settleSynth := by
  unfold State.settleSynth
  split
  · exact k.takeSynthHunt s h
  · exact k.takeSynthSync s h

theorem StepKept.returnFrame (k : StepKept P) (frame : FrameBits) (order : ReturnOrder) (s : State) (h : P s) :
    P (s.returnFrame frame order) := by
  have ready := k.settleSynth s h
  have judged : P (s.settleSynth.judgeSynth (goodSync frame) order.hold).1 := by
    have run := k.synthReceiver _ (s.settleSynth.synth.receiver.judge (goodSync frame)).1 ready
    unfold State.judgeSynth
    dsimp only
    split
    · exact run
    · exact k.settleSynth _ run
  unfold State.returnFrame
  split
  · exact h
  · dsimp only
    split
    · exact k.returnSideByte _ _ _ _ judged
    · exact judged

theorem StepKept.synthFrame (k : StepKept P) (order : SynthOrder) (s : State) (h : P s) : P (s.synthFrame order) := by
  have answered : P (s.complete.frameAnswers order.transmitterFirst).1 := by
    unfold State.frameAnswers
    split
    · exact k.readStore _ (k.sideByte _ (k.complete s h))
    · exact k.sideByte _ (k.readStore _ (k.complete s h))
  unfold State.synthFrame
  split
  · exact k.sent s none h
  · dsimp only
    split
    · exact k.sent _ _ answered
    · exact k.complete _ (k.sent _ _ answered)

/-! ### Every command -/

/-- Every command answers a next state that keeps what the parts keep. -/
theorem StepKept.exec (k : StepKept P) (c : Instr) (s : State) (h : P s) : ∃ t, exec c s = .next t ∧ P t := by
  cases c with
  | powerOn => exact ⟨_, rfl, k.powerOn s h⟩
  | pickupForwardFrame frame order => exact ⟨_, rfl, k.pickupFrame s frame order h⟩
  | lock n => exact ⟨_, rfl, k.event s n .lock h⟩
  | lockLoss n => exact ⟨_, rfl, k.event s n .lockLoss h⟩
  | staleCrossing n => exact ⟨_, rfl, k.event s n .staleCrossing h⟩
  | strikeDeadlineExpiry n => exact ⟨_, rfl, k.event s n .strikeDeadlineExpiry h⟩
  | release n => exact ⟨_, rfl, k.event s n .release h⟩
  | faultEntry n => exact ⟨_, rfl, k.event s n .faultEntry h⟩
  | faultWaitEnd n => exact ⟨_, rfl, k.event s n .faultWaitEnd h⟩
  | recovery n => exact ⟨_, rfl, k.event s n .recovery h⟩
  | dampExit n => exact ⟨_, rfl, k.event s n .dampExit h⟩
  | pickupHuntEntry => exact ⟨_, rfl, k.huntEntry s h⟩
  | pickupSyncEntry => exact ⟨_, rfl, k.syncEntry s h⟩
  | converterMessage m =>
    refine ⟨_, rfl, ?_⟩
    split
    · exact k.converterMessage m s h
    · exact h
  | synthForwardFrame order => exact ⟨_, rfl, k.synthFrame order s h⟩
  | transmissionComplete => exact ⟨_, rfl, k.complete s h⟩
  | synthReturnFrame frame order => exact ⟨_, rfl, k.returnFrame frame order s h⟩
  | synthReceiverHuntEntry => exact ⟨_, rfl, k.takeSynthHunt s h⟩
  | synthReceiverSyncEntry => exact ⟨_, rfl, k.takeSynthSync s h⟩
  | relayUpMessage m =>
    refine ⟨_, rfl, ?_⟩
    split
    · rcases s.checkMessage_counts m with ⟨-, -, -, e⟩ | ⟨link, saturated, e⟩ <;> rw [e]
      · exact k.relayUpMessage m s h
      · exact k.link s link saturated h
    · exact h
  | clockLost => exact ⟨_, rfl, k.clockLost s h⟩
  | clockReturn => exact ⟨_, rfl, k.clockReturn s h⟩
  | requestBadKind kind body => exact ⟨_, rfl, k.serve EffectKept.badKind _ _ s h⟩
  | put body => exact ⟨_, rfl, k.serve k.put _ _ s h⟩
  | get body => exact ⟨_, rfl, k.serve EffectKept.get _ _ s h⟩
  | mode body => exact ⟨_, rfl, k.serve k.mode _ _ s h⟩
  | clear body => exact ⟨_, rfl, k.serve k.clear _ _ s h⟩
  | damp body => exact ⟨_, rfl, k.serve k.damp _ _ s h⟩
  | status body => exact ⟨_, rfl, k.serve EffectKept.status _ _ s h⟩
  | counters body => exact ⟨_, rfl, k.serve k.counters _ _ s h⟩
  | resetTracking tag order => exact ⟨_, rfl, k.resetRequest _ order s h⟩
  | resetFull tag order => exact ⟨_, rfl, k.resetRequest _ order s h⟩

/-- A step keeps what the parts keep and the place of the queue does not touch. -/
theorem StepKept.step (k : StepKept P) (place : ∀ (s : State) rest, P s → P { s with pending := rest }) {s t : State} (h : P s)
    (stepped : step s = .next t) : P t := by
  unfold Machine.step at stepped
  split at stepped
  · cases stepped
    exact h
  · next c rest _ =>
    obtain ⟨after, e, kept⟩ := k.exec c _ (place s rest h)
    rw [e] at stepped
    cases stepped
    exact kept

end

end Sys2Proof.Machine
end

section
/-! Invariants that speak of one string at a time, beside the tables, the pickup receiver's state and the message in flight: such an
invariant is kept by every command once the work on a unit keeps it. A reset keeps it in two steps: a late string's unit is in a
condition of its own from the flush of its queue until its blocks take the reset (R127, R187; log 16). -/

namespace Sys2Proof.Machine

/-- A condition on a string's unit, beside the tables, the pickup receiver's state and the transmitter's state. -/
abbrev UnitPred := Tables → SyncState → TxState → StringNo → StringUnit → Prop

/-- The condition holds of every string. -/
def EveryUnit (U : UnitPred) (s : State) : Prop := ∀ n, U s.tables s.pickup.receiver.state s.tx.state n (s.unit n)

/-- What the blocks' work on a frame keeps of a unit, with the entries of the pickup receiver and the reports a reset drops. -/
structure UnitFrameKept (U : UnitPred) : Prop where
  envelope : ∀ {tb tx n u} y index, U tb .sync tx n u → U tb .sync tx n (envelopeSample (tb.strings.get n) y index u)
  tracker : ∀ {tb p tx n u} y index, U tb p tx n u → U tb p tx n (trackerSample tb n y index u)
  monitor : ∀ {tb p tx n u} x flag index, U tb p tx n u → U tb p tx n (monitorSample (tb.strings.get n) x flag index u)
  event : ∀ {tb p tx n u} e, U tb p tx n u → U tb p tx n (unitEvent tb n e u)
  hunt : ∀ {tb p tx n u} index, U tb p tx n u → U tb .hunt tx n (huntString (tb.strings.get n) index u)
  sync : ∀ {tb p tx n u}, U tb p tx n u → U tb .sync tx n u
  dropped : ∀ {tb p tx n u}, U tb p tx n u → U tb p tx n u.dropReports

/-! ### The open group of a unit at a completion (R124) -/

/-- What the completion of a message makes of the unit of string `n`. -/
def completeUnit (item : TxItem) (n : StringNo) (u : StringUnit) : StringUnit :=
  match item with
  | .strike n' channel note => if n = n' then { u with group := some { channel := channel, note := note } } else u
  | .shift n' note => if n = n' then { u with group := u.group.map fun g => { g with note := note } } else u
  | .lift n' => if n = n' then { u with group := none } else u
  | .other => u

theorem State.unit_completeItem (item : TxItem) (s : State) (n : StringNo) :
    (s.completeItem item).unit n = completeUnit item n (s.unit n) := by
  cases item with
  | other => rfl
  | _ =>
    simp only [State.completeItem, completeUnit, State.unit_modUnit]
    split
    · next same => rw [same]
    · rfl

/-- The transmitter after the arbiter has taken a note record (R121): the message it became, or READY where it is discarded. -/
def takenTx (message : Option InFlight) : TxState := message.elim .ready .sending

/-- The transmitter after a cut (R126). -/
def cutTx : TxState → TxState
  | .sending _ => .aborting
  | .ready => .ready
  | .aborting => .aborting

/-- A string's unit after a reset has reached its queue and the management unit, its blocks still to take it (R127, R186). -/
def lateUnit (full : Bool) (index : Index) (u : StringUnit) : StringUnit :=
  let v := resetQueue index u
  if full then { v with counters := .zero } else v

/-- The tables after a reset (R186). -/
def resetTb (full : Bool) (tb : Tables) : Tables := if full then .default else tb

/-- What the parts of the commands keep of a unit. `V` is the condition of a late string's unit during a reset. -/
structure UnitKept (U : UnitPred) (V : Bool → UnitPred) : Prop extends UnitFrameKept U where
  powerOn : ∀ n, U .default .hunt .ready n .powerOn
  device : ∀ {tb p tx n u} bytes, U tb p tx n u → U { tb with device := readDevice bytes } p tx n u
  row : ∀ {tb p tx n u} m bytes, U tb p tx n u → U { tb with matrix := tb.matrix.set m (readRow m bytes) } p tx n u
  zone : ∀ {tb p tx n u} (i : Fin 32) mode bytes, U tb p tx n u → U { tb with zones := tb.zones.set i.val (readZone mode bytes) } p tx n u
  curve : ∀ {tb p tx n u} (i : Fin 4) bytes, U tb p tx n u → U { tb with curves := tb.curves.set i.val (readCurve bytes) } p tx n u
  written : ∀ {tb : Tables} {p tx n u} r index, (∃ output sample bytes, r = readString output sample bytes) ∨
      (∃ mode, r = { tb.strings.get n with outputMode := mode }) → U tb p tx n u →
    U { tb with strings := tb.strings.set n r } p tx n
      (changeEnable (tb.strings.get n).enable r.enable r.outputMode index
        (changeMode (tb.strings.get n).outputMode r.outputMode (strikesOrShifts n tx) index u))
  writtenOther : ∀ {tb : Tables} {p tx n u} m r, n ≠ m → (∃ output sample bytes, r = readString output sample bytes) ∨
      (∃ mode, r = { tb.strings.get m with outputMode := mode }) → U tb p tx n u →
    U { tb with strings := tb.strings.set m r } p tx n u
  recovered : ∀ {tb p tx n u}, u.state.faulted = true → U tb p tx n u → U tb p tx n (recoverString u)
  damped : ∀ {tb p tx n u} index, U tb p tx n u → U tb p tx n (dampString (tb.strings.get n) index u).1
  cleared : ∀ {tb p tx n u}, U tb p tx n u → U tb p tx n { u with counters := .zero }
  completed : ∀ {tb p m n u}, U tb p (.sending m) n u → U tb p .ready n (completeUnit m.item n u)
  moved : ∀ {tb p m n u} position, U tb p (.sending m) n u → U tb p (.sending { m with position := position }) n u
  aborted : ∀ {tb p n u}, U tb p .aborting n u → U tb p .ready n u
  sentOther : ∀ {tb p n u} bytes, U tb p .ready n u → U tb p (.sending (.start .other bytes)) n u
  noGlide : ∀ {tb p tx n u}, U tb p tx n u → U tb p tx n { u with glide := none }
  noPress : ∀ {tb p tx n u}, U tb p tx n u → U tb p tx n { u with press := none }
  taken : ∀ {tb : Tables} {p n u record rest}, u.queue = record :: rest → U tb p .ready n u →
    U tb p (takenTx (noteMessage tb.device n u.group record)) n { u with queue := rest }
  takenOther : ∀ {tb : Tables} {p n u record rest} m v, n ≠ m → v.queue = record :: rest → U tb p .ready m v → U tb p .ready n u →
    U tb p (takenTx (noteMessage tb.device m v.group record)) n u
  reset : ∀ {tb p tx n u} full index, U tb p tx n u →
    U (resetTb full tb) p (cutTx tx) n (let v := resetString full (resetQueue index u); if full then { v with counters := .zero } else v)
  lateFrame : ∀ full, UnitFrameKept (V full)
  late : ∀ {tb p tx n u} full index, U tb p tx n u → V full (resetTb full tb) p (cutTx tx) n (lateUnit full index u)
  lateReset : ∀ {tb p tx n u} full, V full tb p tx n u → U tb p tx n (resetString full u)

section
variable {U : UnitPred}

theorem EveryUnit.setUnit {s : State} (h : EveryUnit U s) (n : StringNo) {u : StringUnit}
    (hu : U s.tables s.pickup.receiver.state s.tx.state n u) : EveryUnit U (s.setUnit n u) := by
  intro m
  rw [State.unit_setUnit]
  split
  · next same => subst same; exact hu
  · exact h m

theorem EveryUnit.modUnit {s : State} (h : EveryUnit U s) (n : StringNo) {f : StringUnit → StringUnit}
    (hf : U s.tables s.pickup.receiver.state s.tx.state n (s.unit n) → U s.tables s.pickup.receiver.state s.tx.state n (f (s.unit n))) :
    EveryUnit U (s.modUnit n f) := h.setUnit n (hf (h n))

theorem EveryUnit.offerNotice {s : State} (h : EveryUnit U s) (x : Notice) : EveryUnit U (s.offerNotice x) := by
  intro n
  simpa using h n

theorem EveryUnit.of_eq {s t : State} (h : EveryUnit U s) (tables : t.tables = s.tables) (units : t.units = s.units)
    (receiver : t.pickup.receiver.state = s.pickup.receiver.state) (tx : t.tx.state = s.tx.state) : EveryUnit U t := by
  intro n
  have := h n
  rwa [State.unit, ← units, ← tables, ← receiver, ← tx] at this

/-! ### A pickup frame time -/

theorem UnitFrameKept.takeEvent (k : UnitFrameKept U) (s : State) (n : StringNo) (e : Event) (h : EveryUnit U s) :
    EveryUnit U (s.takeEvent n e) :=
  State.takeEvent_keeps (fun _ x h => h.offerNotice x) n e s (h.setUnit n (k.event e (h n)))

theorem UnitFrameKept.takePickupHunt (k : UnitFrameKept U) (s : State) (h : EveryUnit U s) : EveryUnit U s.takePickupHunt := by
  unfold State.takePickupHunt
  split
  · refine EveryUnit.offerNotice (fun n => ?_) _
    have := k.hunt s.index (h n)
    simpa [State.huntUnits, State.unit, State.record, Receiver.toHunt] using this
  · exact h

theorem UnitFrameKept.takePickupSync (k : UnitFrameKept U) (s : State) (h : EveryUnit U s) : EveryUnit U s.takePickupSync := by
  unfold State.takePickupSync
  split
  · exact EveryUnit.offerNotice (fun n => k.sync (h n)) _
  · exact h

theorem EveryUnit.converterMessage (m : List Byte) (s : State) (h : EveryUnit U s) : EveryUnit U (s.converterMessage m) := by
  rcases s.converterMessage_cases m with ⟨link, -, e⟩ | ⟨-, -, e⟩ <;> rw [e] <;> exact h

theorem EveryUnit.pickupSideByte (tag : Tag) (b : Byte) (s : State) (h : EveryUnit U s) : EveryUnit U (s.pickupSideByte tag b) := by
  unfold State.pickupSideByte
  generalize takeSideByte tag b s.pickup.side = taken
  obtain ⟨side, event⟩ := taken
  cases event with
  | complete m => exact EveryUnit.converterMessage m _ h
  | _ => exact h

theorem UnitFrameKept.frameKept (k : UnitFrameKept U) : FrameKept (EveryUnit U) where
  store s record h := by
    rcases s.offerRecord_cases record with ⟨-, e⟩ | ⟨_, -, e⟩ <;> rw [e]
    · exact h
    · refine EveryUnit.offerNotice ?_ _
      exact h
  envelope s n y index in_sync h := h.modUnit n fun hn => by
    rw [in_sync] at hn ⊢
    exact k.envelope y index hn
  tracker s n y index h := h.modUnit n (k.tracker y index)
  monitor s n x flag index h := h.modUnit n (k.monitor x flag index)
  event := k.takeEvent
  place s work h := h
  huntEntry := k.takePickupHunt
  syncEntry := k.takePickupSync
  judged s good drawn h := h.of_eq rfl rfl (Receiver.judge_state _ _) rfl
  counted s h := h
  sideByte s tag b h := EveryUnit.pickupSideByte tag b s h
  returned s h := by
    unfold State.sendReturnFrame
    split <;> exact h

/-! ### The transmitter -/

variable {V : Bool → UnitPred}

theorem UnitKept.complete (k : UnitKept U V) (s : State) (h : EveryUnit U s) : EveryUnit U s.complete := by
  rcases s.complete_cases with ⟨m, sending, -, e⟩ | ⟨-, e⟩ <;> rw [e]
  · intro n
    have tables : (s.completeItem m.item).tables = s.tables := by cases m.item <;> rfl
    have receiver : (s.completeItem m.item).pickup = s.pickup := by cases m.item <;> rfl
    have unit : ((s.completeItem m.item).setTx .ready).unit n = completeUnit m.item n (s.unit n) := s.unit_completeItem m.item n
    have before := h n
    rw [sending] at before
    rw [unit, State.setTx_tables, State.setTx_pickup, State.setTx_state, tables, receiver]
    exact k.completed before
  · exact h

/-- The condition holds of every string while the given transmitter state stands. -/
abbrev UnderTx (U : UnitPred) (tx : TxState) (s : State) : Prop := EveryUnit U (s.setTx tx)

theorem UnderTx.modUnit {tx : TxState} {s : State} (h : UnderTx U tx s) (n : StringNo) {f : StringUnit → StringUnit}
    (hf : U s.tables s.pickup.receiver.state tx n (s.unit n) → U s.tables s.pickup.receiver.state tx n (f (s.unit n))) :
    UnderTx U tx (s.modUnit n f) := EveryUnit.modUnit (s := s.setTx tx) h n hf

theorem UnitKept.takeQueue (k : UnitKept U V) (n : StringNo) (s : State) (h : UnderTx U .ready s) :
    UnderTx U (takenTx (s.takeQueue n).2) (s.takeQueue n).1 := by
  unfold State.takeQueue
  split
  · exact h
  · next record rest queue =>
    intro m
    show U s.tables s.pickup.receiver.state _ m ((s.modUnit n fun u => { u with queue := rest }).unit m)
    rw [State.unit_modUnit]
    split
    · next same => subst same; exact k.taken queue (h m)
    · next other => exact k.takenOther n (s.unit n) other queue (h n) (h m)

/-- What a take of a slot gives the arbiter: a message that opens no group, or nothing. -/
theorem UnitKept.takeSlot (k : UnitKept U V) (n : StringNo) (s : State) (h : UnderTx U .ready s) :
    UnderTx U (takenTx (s.takeSlot n).2) (s.takeSlot n).1 := by
  have other : ∀ (t : State) (group : Option Group) (bytes : List Byte), UnderTx U .ready t →
      UnderTx U (takenTx (group.map fun _ => .start .other bytes)) t := by
    intro t group bytes ht m
    cases group with
    | none => exact ht m
    | some g => exact k.sentOther _ (ht m)
  have pointed : UnderTx U .ready { s with tx := { s.tx with slotPointer := n } } := h
  unfold State.takeSlot
  dsimp only
  split
  · dsimp only
    exact other _ _ _ (pointed.modUnit n k.noGlide)
  · dsimp only
    exact other _ _ _ (pointed.modUnit n k.noPress)
  · exact h

theorem UnitKept.pickOnce (k : UnitKept U V) (s : State) (h : UnderTx U .ready s) :
    (∀ t m, s.pickOnce = .took t m → UnderTx U (.sending m) t) ∧ ∀ t, s.pickOnce = .discarded t → UnderTx U .ready t := by
  have ofTake : ∀ p : State × Option InFlight, UnderTx U (takenTx p.2) p.1 →
      (∀ t m, Picked.ofTake p = .took t m → UnderTx U (.sending m) t) ∧ ∀ t, Picked.ofTake p = .discarded t → UnderTx U .ready t := by
    intro p hp
    obtain ⟨t, taken⟩ := p
    cases taken with
    | none => exact ⟨fun _ _ e => by simp [Picked.ofTake] at e, fun _ e => by simp only [Picked.ofTake, Picked.discarded.injEq] at e; subst e; exact hp⟩
    | some m => exact ⟨fun _ _ e => by simp only [Picked.ofTake, Picked.took.injEq] at e; obtain ⟨rfl, rfl⟩ := e; exact hp, fun _ e => by simp [Picked.ofTake] at e⟩
  have took : ∀ (t : State) bytes, t.tables = s.tables → t.units = s.units → t.pickup = s.pickup →
      (∀ v m, Picked.took t (.start .other bytes) = .took v m → UnderTx U (.sending m) v) ∧
        ∀ v, Picked.took t (.start .other bytes) = .discarded v → UnderTx U .ready v := by
    intro t bytes tables units pickup
    refine ⟨fun v m e => ?_, fun v e => by cases e⟩
    cases e
    intro n
    have sent := k.sentOther bytes (h n)
    show U t.tables t.pickup.receiver.state _ n (t.units.get n)
    rw [tables, units, pickup]
    exact sent
  unfold State.pickOnce
  split
  · exact took _ _ rfl rfl rfl
  · split
    · exact ofTake _ (k.takeQueue _ s h)
    · split
      · exact took _ _ rfl rfl rfl
      · exact took _ _ rfl rfl rfl
      · split
        · exact ofTake _ (k.takeSlot _ s h)
        · exact ⟨fun _ _ e => (by cases e), fun _ e => (by cases e)⟩

theorem UnitKept.pickWith (k : UnitKept U V) (fuel : Nat) (s : State) (h : UnderTx U .ready s) :
    UnderTx U (takenTx (pickWith fuel s).2) (pickWith fuel s).1 := by
  induction fuel generalizing s with
  | zero => exact h
  | succ fuel ih =>
    obtain ⟨took, discarded⟩ := k.pickOnce s h
    unfold Machine.pickWith
    split
    · exact h
    · next t m e => exact took t m e
    · next t e => exact ih t (discarded t e)

theorem State.setTx_self (s : State) {tx : TxState} (h : s.tx.state = tx) : s.setTx tx = s := by
  subst h; rfl

/-- The arbiter leaves the transmitter's state to its caller. -/
theorem State.pick_tx_state (s : State) : s.pick.1.tx.state = s.tx.state := by
  have once : ∀ t : State, t.tx.state = s.tx.state →
      (∀ v m, t.pickOnce = .took v m → v.tx.state = s.tx.state) ∧ ∀ v, t.pickOnce = .discarded v → v.tx.state = s.tx.state := by
    intro t ht
    have queue : ∀ n, (t.takeQueue n).1.tx.state = s.tx.state := by
      intro n; unfold State.takeQueue; split <;> exact ht
    have slot : ∀ n, (t.takeSlot n).1.tx.state = s.tx.state := by
      intro n; unfold State.takeSlot; dsimp only; split <;> exact ht
    have ofTake : ∀ p : State × Option InFlight, p.1.tx.state = s.tx.state →
        (∀ v m, Picked.ofTake p = .took v m → v.tx.state = s.tx.state) ∧
          ∀ v, Picked.ofTake p = .discarded v → v.tx.state = s.tx.state := by
      intro p hp
      obtain ⟨v, taken⟩ := p
      cases taken <;> constructor <;> intros <;> simp_all [Picked.ofTake]
    unfold State.pickOnce
    split
    · exact ⟨fun _ _ e => by cases e; exact ht, fun _ e => by cases e⟩
    · split
      · exact ofTake _ (queue _)
      · split
        · exact ⟨fun _ _ e => by cases e; exact ht, fun _ e => by cases e⟩
        · exact ⟨fun _ _ e => by cases e; exact ht, fun _ e => by cases e⟩
        · split
          · exact ofTake _ (slot _)
          · exact ⟨fun _ _ e => (by cases e), fun _ e => (by cases e)⟩
  exact pickWith_induction (P := fun t => t.tx.state = s.tx.state) (fun t v m ht e => (once t ht).1 v m e)
    (fun t v ht e => (once t ht).2 v e) _ s rfl

theorem UnitKept.sideByte (k : UnitKept U V) (s : State) (h : EveryUnit U s) : EveryUnit U s.sideByte.1 := by
  unfold State.sideByte
  split
  · next aborting =>
    intro n
    have := h n
    rw [aborting] at this
    exact k.aborted this
  · next m sending =>
    intro n
    have := h n
    rw [sending] at this
    exact k.moved _ this
  · next ready =>
    have picked := k.pickWith (s.heldRecords + 1) s (by rw [UnderTx, s.setTx_self ready]; exact h)
    have state := s.pick_tx_state
    unfold State.pick at state ⊢
    split
    · next t m e =>
      rw [e] at picked
      exact fun n => k.moved _ (picked n)
    · next t e =>
      rw [e] at picked state
      rw [ready] at state
      rw [takenTx, UnderTx, Option.elim_none, State.setTx_self _ state] at picked
      exact picked

/-! ### Resets -/

/-- The condition of a unit while a reset is under way: the late strings that have not taken it are in their own. -/
def midReset (U V : UnitPred) (waits : StringNo → Bool) : UnitPred := fun tb p tx n u => if waits n then V tb p tx n u else U tb p tx n u

theorem midReset_imp {V : UnitPred} {waits : StringNo → Bool} {tb tb' : Tables} {p p' : SyncState} {tx tx' : TxState} {n : StringNo}
    {u u' : StringUnit} (late : V tb p tx n u → V tb' p' tx' n u') (other : U tb p tx n u → U tb' p' tx' n u')
    (h : midReset U V waits tb p tx n u) : midReset U V waits tb' p' tx' n u' := by
  unfold midReset at h ⊢
  split
  · next waiting => rw [if_pos waiting] at h; exact late h
  · next free => rw [if_neg free] at h; exact other h

theorem UnitFrameKept.midReset {V : UnitPred} (k : UnitFrameKept U) (l : UnitFrameKept V) (waits : StringNo → Bool) :
    UnitFrameKept (midReset U V waits) where
  envelope y index := midReset_imp (l.envelope y index) (k.envelope y index)
  tracker y index := midReset_imp (l.tracker y index) (k.tracker y index)
  monitor x flag index := midReset_imp (l.monitor x flag index) (k.monitor x flag index)
  event e := midReset_imp (l.event e) (k.event e)
  hunt index := midReset_imp (l.hunt index) (k.hunt index)
  sync := midReset_imp l.sync k.sync
  dropped := midReset_imp l.dropped k.dropped

theorem UnitFrameKept.settleUnreported (k : UnitFrameKept U) (n : StringNo) (s : State) (h : EveryUnit U s) :
    EveryUnit U (s.settleUnreported n) :=
  State.settleUnreported_keeps n (fun s e h => k.takeEvent s n e h) s h

theorem UnitFrameKept.settleForReset (k : UnitFrameKept U) (late : Six Bool) (s : State) (h : EveryUnit U s) :
    EveryUnit U (s.settleForReset late) := by
  unfold State.settleForReset
  induction StringNo.all generalizing s with
  | nil => exact h
  | cons n l ih =>
    refine ih _ (k.settleUnreported n _ ?_)
    split
    · exact h
    · exact h.modUnit n k.dropped

theorem State.cut_tx_state (s : State) : s.cut.tx.state = cutTx s.tx.state := by
  unfold State.cut
  split <;> simp_all [cutTx]

/-- Every block but the late strings' has taken the reset (R186). -/
theorem UnitKept.resetBlocks (k : UnitKept U V) (full : Bool) (late : Six Bool) (s : State) (h : EveryUnit U s) :
    EveryUnit (midReset U (V full) late.get) (s.resetBlocks full late) := by
  have ready := k.complete _ (k.settleForReset late s h)
  unfold State.resetBlocks State.resetTransmitter
  generalize (s.settleForReset late).complete = t at ready
  intro n
  have cut : t.cut = t.setTx (cutTx t.tx.state) := by unfold State.cut; split <;> simp_all [cutTx, State.setTx_self]
  have hn := ready n
  rw [cut]
  unfold midReset
  cases full <;> split
  · next waits =>
    have := k.late false t.index hn
    simpa [State.resetStrings, State.resetTables, State.unit, waits, lateUnit, resetTb, State.setTx] using this
  · next waits =>
    have := k.reset false t.index hn
    simpa [State.resetStrings, State.resetTables, State.unit, waits, resetTb, State.setTx] using this
  · next waits =>
    have := k.late true t.index hn
    simpa [State.resetStrings, State.resetTables, State.unit, waits, lateUnit, resetTb, State.setTx] using this
  · next waits =>
    have := k.reset true t.index hn
    simpa [State.resetStrings, State.resetTables, State.unit, waits, resetTb, State.setTx] using this

/-- The late strings take the reset one after the other. -/
theorem UnitKept.resetLate (k : UnitKept U V) (full : Bool) (late : Six Bool) (s : State)
    (h : EveryUnit (midReset U (V full) late.get) s) : EveryUnit U (s.resetLate full late) := by
  have each : ∀ (l : List StringNo), l.Nodup → ∀ s : State,
      EveryUnit (midReset U (V full) fun n => late.get n && decide (n ∈ l)) s →
      EveryUnit U (l.foldl (fun s n =>
        if late.get n then ((s.modUnit n StringUnit.dropReports).settleUnreported n).modUnit n (resetString full) else s) s) := by
    intro l
    induction l with
    | nil => intro _ s h; simpa [EveryUnit, midReset] using h
    | cons n l ih =>
      intro nodup s h
      obtain ⟨fresh, nodup⟩ := List.nodup_cons.mp nodup
      refine ih nodup _ ?_
      dsimp only
      split
      · next waits =>
        have kept := k.midReset (k.lateFrame full) fun m => late.get m && decide (m ∈ n :: l)
        have settled := kept.settleUnreported n _ (h.modUnit n kept.dropped)
        generalize (s.modUnit n StringUnit.dropReports).settleUnreported n = t at settled
        intro m
        have hm := settled m
        show midReset U (V full) _ t.tables _ _ m ((t.modUnit n (resetString full)).unit m)
        rw [State.unit_modUnit]
        by_cases same : m = n
        · subst same
          simp only [midReset, waits, List.mem_cons, true_or, decide_true, Bool.and_self, if_true] at hm
          simpa [midReset, fresh] using k.lateReset full hm
        · simpa [midReset, same] using hm
      · next waits =>
        intro m
        have hm := h m
        by_cases same : m = n
        · subst same
          simpa [midReset, waits] using hm
        · simpa [midReset, same] using hm
  refine each StringNo.all (by decide) s ?_
  simpa [EveryUnit, midReset, StringNo.mem_all] using h

theorem UnitKept.resetPart (k : UnitKept U V) (s : State) (full : Bool) (tag : Byte) (order : ResetOrder) (h : EveryUnit U s) :
    EveryUnit U (s.resetPart full tag order) := by
  have kept := k.midReset (k.lateFrame full) order.late.get
  have arrived : ∀ (l : List Arrival) (t : State), EveryUnit (midReset U (V full) order.late.get) t →
      EveryUnit (midReset U (V full) order.late.get) (l.foldl (fun s a => s.arrive a) t) := by
    intro l
    induction l with
    | nil => intro t h; exact h
    | cons a l ih =>
      intro t h
      refine ih _ ?_
      cases a with
      | frame frame order => exact kept.frameKept.pickupFrame frame order t h
      | event n e => exact kept.takeEvent t n e h
  exact k.resetLate full order.late _ (arrived order.meanwhile _ (k.resetBlocks full order.late s h))

/-! ### Every command -/

theorem UnitKept.stepKept (k : UnitKept U V) : StepKept (EveryUnit U) where
  powerOn s _ n := by
    simpa [State.powerOn, State.reset, State.unit, Receiver.powerOn] using k.powerOn n
  pickupFrame s frame order h := k.frameKept.pickupFrame frame order s h
  event := k.takeEvent
  huntEntry := k.takePickupHunt
  syncEntry := k.takePickupSync
  link s link _ h := h
  relayedUp s m _ h := h
  relayedDown s m _ h := h
  complete := k.complete
  sideByte := k.sideByte
  readStore s h := by
    rcases s.readStore_cases with ⟨-, e⟩ | ⟨_, -, e⟩ <;> rw [e]
    · exact h
    · refine EveryUnit.offerNotice ?_ _
      exact h
  sent s frame h := h
  synthReceiver s r h := h
  synthSide s side _ h := h
  clockLost s h := by
    have ready := k.complete s h
    unfold State.clockLost
    split
    · exact h
    · refine EveryUnit.of_eq (s := s.complete.rewind) ?_ rfl rfl rfl rfl
      unfold State.rewind
      split
      · next m sending =>
        intro n
        have hn := ready n
        rw [sending] at hn
        exact k.moved 0 hn
      · exact ready
      · exact ready
  clockReturn s h := by
    unfold State.clockReturn
    split
    · exact h
    · refine EveryUnit.offerNotice ?_ _
      exact h
  device s bytes h n := k.device bytes (h n)
  row s m bytes h n := k.row m bytes (h n)
  zone s i mode bytes h n := k.zone i mode bytes (h n)
  curve s i bytes h n := k.curve i bytes (h n)
  written s n r formed h m := by
    have index : (s.writeString n r).unit m = if m = n then
        changeEnable (s.record n).enable r.enable r.outputMode s.index
          (changeMode (s.record n).outputMode r.outputMode (strikesOrShifts n s.tx.state) s.index (s.unit n)) else s.unit m :=
      State.unit_modUnit _ _ _ _
    rw [index]
    split
    · next same => subst same; exact k.written r s.index formed (h m)
    · next other => exact k.writtenOther n r other formed (h m)
  recovered s n faulted h := (h.modUnit n (k.recovered faulted)).offerNotice _
  damped s n h := h.setUnit n (k.damped s.index (h n))
  cleared s n h := h.modUnit n k.cleared
  answered s kind tag reply _ h := h
  reset s full tag order _ h := k.resetPart s full tag order h

end

end Sys2Proof.Machine
end

section
/-! The table records that a PUT reads are in their ranges whatever its bytes (R180, R181), and every step keeps the tables so. -/

namespace Sys2Proof.Machine

/-! ### Records read -/

theorem clampNat_mem {lo hi : Nat} (h : lo ≤ hi) (v : Nat) : lo ≤ clampNat lo hi v ∧ clampNat lo hi v ≤ hi := by
  unfold clampNat; omega

theorem clampInt_mem {lo hi : Int} (h : lo ≤ hi) (v : Int) : lo ≤ clampInt lo hi v ∧ clampInt lo hi v ≤ hi := by
  unfold clampInt; omega

theorem readDevice_sound (bytes : List Byte) : (readDevice bytes).Sound := by
  have address := clampNat_mem (lo := 1) (hi := 126) (by decide) (byteAt bytes 0)
  have fA := clampNat_mem (lo := 41500) (hi := 46600) (by decide) (field2 bytes 1)
  have fs := clampNat_mem (lo := 32000) (hi := 96000) (by decide) (field3 bytes 3)
  exact ⟨address.1, address.2, fA.1, fA.2, fs.1, fs.2⟩

/-- The two cross-field fixes put the release threshold below A and S above A, with every field still in its range (R181). -/
theorem fixSpan_fixRelease {a s release : Nat} (ha : 16 ≤ a ∧ a ≤ levelMax) (hs : 1 ≤ s ∧ s ≤ levelMax) (hr : 1 ≤ release) :
    16 ≤ (fixSpan a s).1 ∧ (fixSpan a s).1 < (fixSpan a s).2 ∧ (fixSpan a s).2 ≤ levelMax ∧
      1 ≤ fixRelease (fixSpan a s).1 release ∧ fixRelease (fixSpan a s).1 release < (fixSpan a s).1 := by
  unfold fixSpan fixRelease levelMax at *
  split
  · split <;> dsimp only <;> split <;> omega
  · dsimp only; split <;> omega

theorem readString_sound (output : OutputMode) (sample : SampleMode) (r : List Byte) : (readString output sample r).Sound := by
  obtain ⟨attach, below, span, release, above⟩ := fixSpan_fixRelease (clampNat_mem (hi := levelMax) (by decide) (field3 r 3))
    (clampNat_mem (by decide) (field3 r 12)) (clampNat_mem (lo := 1) (hi := levelMax) (by decide) (field3 r 6)).1
  have range : ∀ lo hi v, lo ≤ hi → lo ≤ clampNat lo hi v ∧ clampNat lo hi v ≤ hi := fun lo hi v h => clampNat_mem h v
  refine ⟨attach, below, span, release, above, ?_⟩
  simp only [readString]
  refine ⟨(range _ _ _ ?_).1, (range _ _ _ ?_).2, (range _ _ _ ?_).1, (range _ _ _ ?_).2, (range _ _ _ ?_).2, (range _ _ _ ?_).1,
    (range _ _ _ ?_).2, (range _ _ _ ?_).1, (range _ _ _ ?_).2, (range _ _ _ ?_).2, (range _ _ _ ?_).1, (range _ _ _ ?_).2,
    (range _ _ _ ?_).2, (range _ _ _ ?_).2, (range _ _ _ ?_).1, (range _ _ _ ?_).2, (range _ _ _ ?_).2, (range _ _ _ ?_).1,
    (range _ _ _ ?_).2, (range _ _ _ ?_).1, (range _ _ _ ?_).2, (range _ _ _ ?_).2, (range _ _ _ ?_).1, (range _ _ _ ?_).2,
    (range _ _ _ ?_).1, (range _ _ _ ?_).2, (range _ _ _ ?_).1, (range _ _ _ ?_).2, (range _ _ _ ?_).1, (range _ _ _ ?_).2,
    (range _ _ _ ?_).1, (range _ _ _ ?_).2, (range _ _ _ ?_).2⟩
  all_goals decide

theorem readRow_sound (n : StringNo) (bytes : List Byte) : RowSound n (readRow n bytes) := by
  unfold RowSound readRow
  simp only [Six.get_ofFn, readCoefficient]
  refine ⟨by simp, fun t => ?_⟩
  split
  · decide
  · exact clampInt_mem (by decide) _

theorem readZone_sound (mode : ZoneMode) (bytes : List Byte) : (readZone mode bytes).Sound := by
  have channel := clampNat_mem (lo := 1) (hi := 16) (by decide) (byteAt bytes 2)
  have transpose := clampInt_mem (lo := -48) (hi := 48) (by decide) (signedAt bytes 3)
  have bend := clampNat_mem (lo := 1) (hi := 24) (by decide) (byteAt bytes 5)
  exact ⟨(clampNat_mem (by decide) _).2, (clampNat_mem (by decide) _).2, channel.1, channel.2, transpose.1, transpose.2, bend.1, bend.2⟩

theorem readCurve_get (bytes : List Byte) (i : Fin 16) : (readCurve bytes).get i = clampNat 1 127 (byteAt bytes i.val) := by
  simp [readCurve, Vector.get_eq_getElem]

theorem readCurve_sound (bytes : List Byte) : CurveSound (readCurve bytes) := by
  intro i
  rw [readCurve_get]
  exact clampNat_mem (by decide) _

/-! ### Tables written -/

theorem vector_get_set {α : Type} {k : Nat} (v : Vector α k) (i j : Fin k) (a : α) :
    (v.set i.val a).get j = if j = i then a else v.get j := by
  simp only [Vector.get_eq_getElem, Vector.getElem_set, Fin.ext_iff]
  split <;> split <;> simp_all

section
variable {tb : Tables} (h : TablesSound tb)
include h

theorem TablesSound.setDevice {d : DeviceRecord} (hd : d.Sound) : TablesSound { tb with device := d } := by
  obtain ⟨-, strings, matrix, zones, curves⟩ := h
  exact ⟨hd, strings, matrix, zones, curves⟩

theorem TablesSound.setString (n : StringNo) {r : StringRecord} (hr : r.Sound) :
    TablesSound { tb with strings := tb.strings.set n r } := by
  obtain ⟨device, strings, matrix, zones, curves⟩ := h
  refine ⟨device, fun m => ?_, matrix, zones, curves⟩
  rw [Six.get_set]
  split
  · exact hr
  · exact strings m

theorem TablesSound.setRow (n : StringNo) {row : CrosstalkRow} (hr : RowSound n row) :
    TablesSound { tb with matrix := tb.matrix.set n row } := by
  obtain ⟨device, strings, matrix, zones, curves⟩ := h
  refine ⟨device, strings, fun m => ?_, zones, curves⟩
  rw [Six.get_set]
  split
  · next same => subst same; exact hr
  · exact matrix m

theorem TablesSound.setZone (i : Fin 32) {z : ZoneRecord} (hz : z.Sound) :
    TablesSound { tb with zones := tb.zones.set i.val z } := by
  obtain ⟨device, strings, matrix, zones, curves⟩ := h
  refine ⟨device, strings, matrix, fun j => ?_, curves⟩
  rw [vector_get_set]
  split
  · exact hz
  · exact zones j

theorem TablesSound.setCurve (i : Fin 4) {c : Curve} (hc : CurveSound c) :
    TablesSound { tb with curves := tb.curves.set i.val c } := by
  obtain ⟨device, strings, matrix, zones, curves⟩ := h
  refine ⟨device, strings, matrix, zones, fun j => ?_⟩
  rw [vector_get_set]
  split
  · exact hc
  · exact curves j

/-- A string record read by a PUT, or a stored one with another output mode, is sound. -/
theorem TablesSound.written_sound {n : StringNo} {r : StringRecord} (formed : (∃ output sample bytes, r = readString output sample bytes) ∨
    ∃ mode, r = { tb.strings.get n with outputMode := mode }) : r.Sound := by
  obtain ⟨output, sample, bytes, rfl⟩ | ⟨mode, rfl⟩ := formed
  · exact readString_sound output sample bytes
  · exact h.2.1 n

end

theorem StringRecord.default_sound (n : StringNo) : (StringRecord.default n).Sound := by
  cases n <;> decide

theorem Tables.default_zone (i : Fin 32) : Tables.default.zones.get i = ZoneRecord.default i := by
  simp [Tables.default, Vector.get_eq_getElem]

theorem Tables.default_sound : TablesSound .default := by
  refine ⟨by decide, fun n => ?_, fun n => ?_, fun i => ?_, by unfold CurveSound; decide⟩
  · simpa [Tables.default] using StringRecord.default_sound n
  · simp [Tables.default, RowSound]
  · rw [Tables.default_zone]
    revert i
    decide

theorem resetTb_sound (full : Bool) {tb : Tables} (h : TablesSound tb) : TablesSound (resetTb full tb) := by
  cases full
  · exact h
  · exact Tables.default_sound

/-! ### Every step -/

/-- The tables are sound, said of each string for the induction over the commands. -/
abbrev soundTables : UnitPred := fun tb _ _ _ _ => TablesSound tb

theorem soundTables_kept : UnitKept soundTables fun _ => soundTables where
  envelope _ _ h := h
  tracker _ _ h := h
  monitor _ _ _ h := h
  event _ h := h
  hunt _ h := h
  sync h := h
  dropped h := h
  powerOn _ := Tables.default_sound
  device bytes h := h.setDevice (readDevice_sound bytes)
  row m bytes h := h.setRow m (readRow_sound m bytes)
  zone i mode bytes h := h.setZone i (readZone_sound mode bytes)
  curve i bytes h := h.setCurve i (readCurve_sound bytes)
  written _ _ formed h := h.setString _ (h.written_sound formed)
  writtenOther m _ _ formed h := h.setString m (h.written_sound formed)
  recovered _ h := h
  damped _ h := h
  cleared h := h
  completed h := h
  moved _ h := h
  aborted h := h
  sentOther _ h := h
  noGlide h := h
  noPress h := h
  taken _ h := h
  takenOther _ _ _ _ _ h := h
  reset full _ h := resetTb_sound full h
  lateFrame _ :=
    { envelope _ _ h := h, tracker _ _ h := h, monitor _ _ _ h := h, event _ h := h, hunt _ h := h, sync h := h, dropped h := h }
  late full _ h := resetTb_sound full h
  lateReset _ h := h

/-- Settles O8: every record that a PUT stores has been clamped and fixed, and MODE changes no range. -/
theorem tableRangesKept : Obligations.TableRangesKept := fun s t h stepped =>
  soundTables_kept.stepKept.step (fun _ _ h => h) (s := s) (t := t) (fun _ => h) stepped .s1

end Sys2Proof.Machine
end

section
/-! The STRIKE by the outcome of its zone search (R90). -/

namespace Sys2Proof.Machine

/-- The record that a STRIKE of string `n` offers, from the matched zone and N_raw (R87, R88, R90). -/
def strikeRecord (tb : Tables) (n : StringNo) (z : ZoneRecord) (raw : Nat) (stamp : Index) (atLock : Bool) (u : StringUnit) : NoteRecord :=
  .strike z.channel (fold (raw + z.transpose))
    (velocity (tb.strings.get n).attach (tb.strings.get n).velocitySpan u.env.peak (tb.curves.get z.curve)) stamp (!atLock) false

/-- The unit of a string that strikes, before its record is offered: SOUNDING, with the pitch of the period (R90). -/
def soundingUnit (tb : Tables) (period : Nat) (atLock : Bool) (u : StringUnit) : StringUnit :=
  let q := pitchOf tb.device period
  { u with state := .sounding, pitch := if atLock then .tracking q (rawNote q) else .held q (rawNote q) }

theorem strike_of_not_attack {tb : Tables} {n : StringNo} {period : Nat} {stamp : Index} {atLock : Bool} {u : StringUnit}
    (left : u.state ≠ .attack) : strike tb n period stamp atLock u = u := if_neg left

theorem strike_of_no_zone {tb : Tables} {n : StringNo} {period : Nat} {stamp : Index} {atLock : Bool} {u : StringUnit}
    (attack : u.state = .attack)
    (unmatched : zoneSearch tb.zones (tb.strings.get n).zoneHead (rawNote (pitchOf tb.device period)) = none) :
    strike tb n period stamp atLock u =
      { soundingUnit tb period atLock u with
        context := .struck (newNote (rawNote (pitchOf tb.device period)) none (!atLock))
        counters := { u.counters with unzoned := bump u.counters.unzoned } } := by
  simp [strike, attack, unmatched, soundingUnit]

theorem strike_of_zone {tb : Tables} {n : StringNo} {period : Nat} {stamp : Index} {atLock : Bool} {u : StringUnit} {z : ZoneRecord}
    (attack : u.state = .attack)
    (found : zoneSearch tb.zones (tb.strings.get n).zoneHead (rawNote (pitchOf tb.device period)) = some z) :
    strike tb n period stamp atLock u =
      (let raw := rawNote (pitchOf tb.device period)
       let offered := offerStrike (tb.strings.get n).outputMode (strikeRecord tb n z raw stamp atLock u) (soundingUnit tb period atLock u)
       let v := { offered.1 with context := .struck { newNote raw (some z.copy) (!atLock) with announced := offered.2 } }
       if atLock then glideDecision (tb.strings.get n) stamp v else v) := by
  simp [strike, attack, found, soundingUnit, strikeRecord, ZoneRecord.copy]

/-- A STRIKE is discarded, finds no zone, or finds one. -/
theorem strike_cases (tb : Tables) (n : StringNo) (period : Nat) (u : StringUnit) :
    u.state ≠ .attack ∨
    (u.state = .attack ∧ zoneSearch tb.zones (tb.strings.get n).zoneHead (rawNote (pitchOf tb.device period)) = none) ∨
    (u.state = .attack ∧ ∃ z, zoneSearch tb.zones (tb.strings.get n).zoneHead (rawNote (pitchOf tb.device period)) = some z) := by
  by_cases attack : u.state = .attack
  · cases found : zoneSearch tb.zones (tb.strings.get n).zoneHead (rawNote (pitchOf tb.device period)) with
    | none => exact .inr (.inl ⟨attack, rfl⟩)
    | some z => exact .inr (.inr ⟨attack, z, rfl⟩)
  · exact .inl attack

end Sys2Proof.Machine
end

section
/-! What a command keeps of the part's shared blocks, and the queue of commands (log 9). -/

namespace Sys2Proof.Machine

/-! ### Operations that leave a field alone -/

theorem State.sendReturnFrame_cases (s : State) :
    ∃ ret out, s.sendReturnFrame = { s with pickup := { s.pickup with ret := ret }, pickupOut := out } ∨
      ∃ m rest, s.relayUp = m :: rest ∧
        s.sendReturnFrame = { s with pickup := { s.pickup with ret := ret }, relayUp := rest, pickupOut := out } := by
  unfold State.sendReturnFrame
  split
  · exact ⟨_, _, .inl rfl⟩
  · next m rest _ up => exact ⟨_, _, .inr ⟨m, rest, up, rfl⟩⟩
  · exact ⟨s.pickup.ret, _, .inl rfl⟩

/-- A side byte at the pickup receiver moves the open message, and may count or fill relay-down. -/
theorem State.pickupSideByte_cases (tag : Tag) (b : Byte) (s : State) :
    let taken : State := { s with pickup := { s.pickup with side := (takeSideByte tag b s.pickup.side).1 } }
    (∃ link, (s.link.Saturated → link.Saturated) ∧ s.pickupSideByte tag b = { taken with link := link }) ∨
    (∃ m, s.relayDown.length ≤ 1 ∧ s.pickupSideByte tag b = { taken with relayDown := s.relayDown ++ [m] }) := by
  unfold State.pickupSideByte
  generalize takeSideByte tag b s.pickup.side = result
  obtain ⟨side, event⟩ := result
  cases event with
  | none => exact .inl ⟨s.link, id, rfl⟩
  | abort => exact .inl ⟨_, LinkCounters.Saturated.aborts, rfl⟩
  | long => exact .inl ⟨_, LinkCounters.Saturated.long, rfl⟩
  | complete m =>
    rcases State.converterMessage_cases m { s with pickup := { s.pickup with side := side } } with ⟨link, saturated, e⟩ | ⟨room, -, e⟩
    · exact .inl ⟨link, saturated, e⟩
    · exact .inr ⟨m, room, e⟩

/-- A completion reaches the transmitter's state and the units alone. -/
theorem State.complete_shape (s : State) : ∃ units state, s.complete = { s with units := units, tx := { s.tx with state := state } } := by
  rcases s.complete_cases with ⟨m, -, -, e⟩ | ⟨-, e⟩ <;> rw [e]
  · cases m.item <;> exact ⟨_, _, rfl⟩
  · exact ⟨s.units, s.tx.state, rfl⟩

theorem State.cut_shape (s : State) : ∃ state, s.cut = { s with tx := { s.tx with state := state } } := by
  unfold State.cut
  split
  · exact ⟨.aborting, rfl⟩
  · exact ⟨s.tx.state, rfl⟩
  · exact ⟨s.tx.state, rfl⟩

theorem State.rewind_shape (s : State) : ∃ state, s.rewind = { s with tx := { s.tx with state := state } } := by
  unfold State.rewind
  split
  · exact ⟨_, rfl⟩
  · exact ⟨s.tx.state, rfl⟩
  · exact ⟨s.tx.state, rfl⟩

/-- The loss of the clock: nothing while ABSENT, else a completion and the rewind, the store flushed, the open message dropped. -/
theorem State.clockLost_cases (s : State) :
    (s.synth.clock = .absent ∧ s.clockLost = s) ∨
    (s.synth.clock = .present ∧ ∃ units state, s.clockLost =
      { s with
        units := units
        tx := { s.tx with state := state }
        store := s.store.flush .halted
        synth := { s.synth with clock := .absent, side := none } }) := by
  unfold State.clockLost
  cases s.synth.clock with
  | absent => exact .inl ⟨rfl, rfl⟩
  | present =>
    refine .inr ⟨rfl, ?_⟩
    obtain ⟨units, state, e⟩ := s.complete_shape
    obtain ⟨state', e'⟩ := s.complete.rewind_shape
    dsimp only
    rw [e', e]
    exact ⟨units, state', rfl⟩

/-- What the arbiter's looks keep: it takes from the notices, the queues, the answers, relay-down and the slots, and moves its
pointers. -/
theorem State.pick_keeps {P : State → Prop} (units : ∀ (s : State) units, P s → P { s with units := units })
    (pointers : ∀ (s : State) q l, P s → P { s with tx := { s.tx with queuePointer := q, slotPointer := l } })
    (notices : ∀ (s : State) x rest, s.tx.notices = x :: rest → P s → P { s with tx := { s.tx with notices := rest } })
    (answers : ∀ (s : State) x rest, s.answers = x :: rest → P s → P { s with answers := rest })
    (down : ∀ (s : State) x rest, s.relayDown = x :: rest → P s → P { s with relayDown := rest }) (s : State) (h : P s) : P s.pick.1 := by
  have queue : ∀ t n, P t → P (t.takeQueue n).1 := by
    intro t n ht
    unfold State.takeQueue
    split
    · exact ht
    · exact units _ _ (pointers t n t.tx.slotPointer ht)
  have slot : ∀ t n, P t → P (t.takeSlot n).1 := by
    intro t n ht
    have moved := pointers t t.tx.queuePointer n ht
    unfold State.takeSlot
    dsimp only
    split
    · exact units _ _ moved
    · exact units _ _ moved
    · exact moved
  have ofTake : ∀ p : State × Option InFlight, P p.1 →
      (∀ t m, Picked.ofTake p = .took t m → P t) ∧ ∀ t, Picked.ofTake p = .discarded t → P t := by
    intro p hp
    obtain ⟨t, taken⟩ := p
    cases taken <;> constructor <;> intros <;> simp_all [Picked.ofTake]
  have once : ∀ t, P t → (∀ v m, t.pickOnce = .took v m → P v) ∧ ∀ v, t.pickOnce = .discarded v → P v := by
    intro t ht
    unfold State.pickOnce
    split
    · next x rest e => exact ⟨fun _ _ e' => by cases e'; exact notices t x rest e ht, fun _ e' => by cases e'⟩
    · split
      · exact ofTake _ (queue _ _ ht)
      · split
        · next x rest e => exact ⟨fun _ _ e' => by cases e'; exact answers t x rest e ht, fun _ e' => by cases e'⟩
        · next x rest _ e => exact ⟨fun _ _ e' => by cases e'; exact down t x rest e ht, fun _ e' => by cases e'⟩
        · split
          · exact ofTake _ (slot _ _ ht)
          · exact ⟨fun _ _ e => (by cases e), fun _ e => (by cases e)⟩
  exact pickWith_induction (fun t v m ht e => (once t ht).1 v m e) (fun t v ht e => (once t ht).2 v e) _ s h

/-- What the transmitter's answer to a synth frame keeps. -/
theorem State.sideByte_keeps {P : State → Prop} (state : ∀ (s : State) t, P s → P (s.setTx t)) (pick : ∀ s, P s → P s.pick.1) (s : State)
    (h : P s) : P s.sideByte.1 := by
  unfold State.sideByte
  split
  · exact state s _ h
  · exact state s _ h
  · have picked := pick s h
    split
    · next e => rw [e] at picked; exact state _ _ picked
    · next e => rw [e] at picked; exact picked

/-! ### What a pickup frame time leaves alone -/

/-- What stands beside the work of a pickup frame time: the tables, the synth link, the answers, the transmitter but its notices, the
frame sent to the synth, the waiting commands. -/
def State.besidePickup (s : State) :
    Tables × SynthLink × List (List Byte) × (TxState × StringNo × StringNo) × Option FrameBits × List Instr :=
  (s.tables, s.synth, s.answers, (s.tx.state, s.tx.queuePointer, s.tx.slotPointer), s.synthOut, s.pending)

@[simp] theorem State.besidePickup_offerNotice (s : State) (x : Notice) : (s.offerNotice x).besidePickup = s.besidePickup := by
  simp [State.besidePickup]

theorem State.besidePickup_kept (s : State) : FrameKept fun t => t.besidePickup = s.besidePickup where
  store t record h := by
    rcases t.offerRecord_cases record with ⟨-, e⟩ | ⟨_, -, e⟩ <;> rw [e]
    · exact h
    · exact (State.besidePickup_offerNotice _ _).trans h
  envelope _ _ _ _ _ h := h
  tracker _ _ _ _ h := h
  monitor _ _ _ _ _ h := h
  event t n e h := State.takeEvent_keeps (P := fun t => t.besidePickup = s.besidePickup)
    (fun _ _ h => (State.besidePickup_offerNotice _ _).trans h) n e t h
  place _ _ h := h
  huntEntry t h := by
    unfold State.takePickupHunt
    split
    · exact (State.besidePickup_offerNotice _ _).trans h
    · exact h
  syncEntry t h := by
    unfold State.takePickupSync
    split
    · exact (State.besidePickup_offerNotice _ _).trans h
    · exact h
  judged _ _ _ h := h
  counted _ h := h
  sideByte t tag b h := by
    rcases t.pickupSideByte_cases tag b with ⟨_, -, e⟩ | ⟨_, -, e⟩ <;> rw [e] <;> exact h
  returned t h := by
    obtain ⟨_, _, e | ⟨_, _, -, e⟩⟩ := t.sendReturnFrame_cases <;> rw [e] <;> exact h

theorem State.pickupFrame_besidePickup (s : State) (frame : Option FrameBits) (order : FrameOrder) :
    (s.pickupFrame frame order).besidePickup = s.besidePickup :=
  s.besidePickup_kept.pickupFrame frame order s rfl

@[simp] theorem State.pickupFrame_answers (s : State) (frame : Option FrameBits) (order : FrameOrder) :
    (s.pickupFrame frame order).answers = s.answers :=
  congrArg (fun beside => beside.2.2.1) (s.pickupFrame_besidePickup frame order)

@[simp] theorem State.pickupFrame_pending (s : State) (frame : Option FrameBits) (order : FrameOrder) :
    (s.pickupFrame frame order).pending = s.pending :=
  congrArg (fun beside => beside.2.2.2.2.2) (s.pickupFrame_besidePickup frame order)

@[simp] theorem State.pickupFrame_synth (s : State) (frame : Option FrameBits) (order : FrameOrder) :
    (s.pickupFrame frame order).synth = s.synth :=
  congrArg (fun beside => beside.2.1) (s.pickupFrame_besidePickup frame order)

/-! ### Resets -/

/-- What a reset keeps of the shared blocks, from what frames, events and its own parts keep. -/
theorem State.resetPart_keeps {P : State → Prop} (frame : ∀ s f o, P s → P (s.pickupFrame f o))
    (event : ∀ s n e, P s → P (s.takeEvent n e)) (units : ∀ (s : State) units, P s → P { s with units := units })
    (complete : ∀ s, P s → P s.complete) (quieted : ∀ (s : State) tx, tx.notices = [] → P s → P { s with tx := tx })
    (emptied : ∀ s : State, P s → P { s with answers := [] })
    (defaults : ∀ s : State, P s → P { s with tables := .default, link := .zero, relayUp := [], relayDown := [] })
    (answered : ∀ (s : State) kind tag reply, s.answers = [] → P s → P (s.answer kind tag reply))
    (s : State) (full : Bool) (tag : Byte) (order : ResetOrder) (h : P s) : P (s.resetPart full tag order) := by
  have settled : ∀ n t, P t → P (t.settleUnreported n) := fun n t ht => State.settleUnreported_keeps n (fun s e hs => event s n e hs) t ht
  have cleared : P (s.settleForReset order.late) := by
    unfold State.settleForReset
    induction StringNo.all generalizing s with
    | nil => exact h
    | cons n l ih =>
      refine ih _ (settled n _ ?_)
      split
      · exact h
      · exact units s _ h
  have blocks : P (s.resetBlocks full order.late) ∧ (s.resetBlocks full order.late).answers = [] := by
    have ready := complete _ cleared
    unfold State.resetBlocks State.resetTransmitter
    generalize (s.settleForReset order.late).complete = t at ready
    obtain ⟨state, cut⟩ := t.cut_shape
    rw [cut]
    have reached := emptied _ (units _ (Six.ofFn fun n => if order.late.get n then resetQueue t.index (t.unit n)
      else resetString full (resetQueue t.index (t.unit n))) (quieted t ⟨state, .s6, .s6, []⟩ rfl ready))
    cases full
    · exact ⟨by simpa [State.resetStrings, State.resetTables, State.unit] using reached, rfl⟩
    · have default := defaults _ (units _ (Six.ofFn fun n => { (if order.late.get n then resetQueue t.index (t.unit n)
        else resetString true (resetQueue t.index (t.unit n)) : StringUnit) with counters := .zero }) reached)
      exact ⟨by simpa [State.resetStrings, State.resetTables, State.unit] using default, rfl⟩
  have arrived : ∀ (l : List Arrival) (t : State), P t ∧ t.answers = [] →
      P (l.foldl (fun s a => s.arrive a) t) ∧ (l.foldl (fun s a => s.arrive a) t).answers = [] := by
    intro l
    induction l with
    | nil => exact fun _ h => h
    | cons a l ih =>
      intro t ⟨ht, empty⟩
      cases a with
      | frame f o => exact ih _ ⟨frame t f o ht, (t.pickupFrame_answers f o).trans empty⟩
      | event n e => exact ih _ ⟨event t n e ht, (t.takeEvent_answers n e).trans empty⟩
  obtain ⟨after, none⟩ := arrived order.meanwhile _ blocks
  have reply := answered _ kindReset tag (.code .ok) none after
  unfold State.resetPart State.resetLate
  dsimp only
  generalize State.answer kindReset tag (Reply.code .ok) _ = t at reply
  induction StringNo.all generalizing t with
  | nil => exact reply
  | cons n l ih =>
    refine ih _ ?_
    dsimp only
    split
    · exact units _ _ (settled n _ (units t _ reply))
    · exact reply

/-! ### The queue of commands -/

theorem State.pending_kept (queue : List Instr) : StepKept fun s => s.pending = queue where
  powerOn s h := h
  pickupFrame s frame order h := (s.pickupFrame_pending frame order).trans h
  event s n e h := (s.takeEvent_pending n e).trans h
  huntEntry s h := by
    unfold State.takePickupHunt State.pickupHuntEntry
    split
    · simpa using h
    · exact h
  syncEntry s h := by
    unfold State.takePickupSync State.pickupSyncEntry
    split
    · simpa using h
    · exact h
  link s link _ h := h
  relayedUp s m _ h := h
  relayedDown s m _ h := h
  complete s h := by obtain ⟨_, _, e⟩ := s.complete_shape; rw [e]; exact h
  sideByte s h := State.sideByte_keeps (P := fun t => t.pending = queue) (fun _ _ h => h)
    (State.pick_keeps (fun _ _ h => h) (fun _ _ _ h => h) (fun _ _ _ _ h => h) (fun _ _ _ _ h => h) fun _ _ _ _ h => h) s h
  readStore s h := by
    rcases s.readStore_cases with ⟨-, e⟩ | ⟨_, -, e⟩ <;> rw [e]
    · exact h
    · simpa using h
  sent s frame h := h
  synthReceiver s r h := h
  synthSide s side _ h := h
  clockLost s h := by
    rcases s.clockLost_cases with ⟨-, e⟩ | ⟨-, _, _, e⟩ <;> rw [e] <;> exact h
  clockReturn s h := by
    unfold State.clockReturn
    split
    · exact h
    · simpa using h
  device s bytes h := h
  row s m bytes h := h
  zone s i mode bytes h := h
  curve s i bytes h := h
  written s n r _ h := h
  recovered s n _ h := by simpa using h
  damped s n h := h
  cleared s n h := h
  answered s kind tag reply _ h := h
  reset s full tag order _ h := State.resetPart_keeps (P := fun t => t.pending = queue)
    (fun s f o h => (s.pickupFrame_pending f o).trans h) (fun s n e h => (s.takeEvent_pending n e).trans h) (fun _ _ h => h)
    (fun s h => by obtain ⟨_, _, e⟩ := s.complete_shape; rw [e]; exact h) (fun _ _ _ h => h) (fun _ h => h) (fun _ h => h)
    (fun _ _ _ _ _ h => h) s full tag order h

/-- Settles O2: no part of a command touches the waiting commands. -/
theorem commandsCompleteAndKeepQueue : Obligations.CommandsCompleteAndKeepQueue := fun c s =>
  (State.pending_kept s.pending).exec c s rfl

end Sys2Proof.Machine
end

section
/-! The numbers that the note engine makes are in range (R71 to R73, R87, R88, R98). -/

namespace Sys2Proof.Machine

/-! ### Q, N_raw, folded notes, velocities -/

theorem greatestBelow_lt (reaches : Nat → Bool) (bits acc : Nat) : greatestBelow reaches bits acc < acc + 2 ^ bits := by
  induction bits generalizing acc with
  | zero => simp [greatestBelow]
  | succ bits ih =>
    rw [greatestBelow, pow_succ]
    split
    · have := ih (acc + 2 ^ bits); omega
    · have := ih acc; omega

theorem pitchOf_le (device : DeviceRecord) (period : Nat) : pitchOf device period ≤ 8191 := by
  have := greatestBelow_lt (pitchReaches device.fs device.fA period) 13 0
  unfold pitchOf
  omega

theorem rawNote_le (q : Nat) : rawNote q ≤ 127 := Nat.min_le_left _ _

theorem fold_le (v : Int) : fold v ≤ 127 := by
  unfold fold
  split
  · omega
  · split <;> omega

/-- A quotient rounded lies between the whole numbers that bound it. -/
theorem roundAway_between {lo hi a : Int} {b : Nat} (hb : 0 < b) (hlo : 0 ≤ lo) (below : lo * b ≤ a) (above : a ≤ hi * b) :
    lo ≤ roundAway a b ∧ roundAway a b ≤ hi := by
  have a_nonneg : 0 ≤ a := le_trans (mul_nonneg hlo (by omega)) below
  rw [roundAway, if_pos a_nonneg]
  constructor
  · rw [Int.le_ediv_iff_mul_le (by omega)]; nlinarith
  · have : (2 * a + b) / (2 * (b : Int)) < hi + 1 := by
      rw [Int.ediv_lt_iff_lt_mul (by omega)]; nlinarith
    omega

/-- A point between two numbers lies between the bounds of both. -/
theorem interpolate_between {lo hi a b : Int} {rest den : Nat} (ha : lo ≤ a ∧ a ≤ hi) (hb : lo ≤ b ∧ b ≤ hi) (hr : rest ≤ den) :
    lo * den ≤ a * den + (b - a) * rest ∧ a * den + (b - a) * rest ≤ hi * den := by
  have hr' : (0 : Int) ≤ den - rest := by omega
  have split_weights : a * den + (b - a) * rest = a * (den - rest) + b * rest := by ring
  rw [split_weights]
  constructor <;> nlinarith [mul_nonneg (sub_nonneg.mpr ha.1) hr', mul_nonneg (sub_nonneg.mpr ha.2) hr',
    mul_nonneg (sub_nonneg.mpr hb.1) (Int.natCast_nonneg rest), mul_nonneg (sub_nonneg.mpr hb.2) (Int.natCast_nonneg rest)]

/-- A velocity is in range: the interpolated value lies between two entries of the curve (R88). -/
theorem velocity_mem {attach span : Nat} (peak : Nat) {curve : Curve} (sound : CurveSound curve) (_below : attach < span) :
    1 ≤ velocity attach span peak curve ∧ velocity attach span peak curve ≤ 127 := by
  have entry : ∀ i (h : i < 16), 1 ≤ curve[i] ∧ curve[i] ≤ 127 := fun i h => sound ⟨i, h⟩
  unfold velocity
  dsimp only
  split
  · split
    · exact entry 0 (by decide)
    · exact entry 15 (by decide)
  · next inside =>
    have den_pos : 0 < span - attach := by omega
    have i_lt : (peak - attach) * 15 / (span - attach) < 15 := by
      rw [Nat.div_lt_iff_lt_mul den_pos]; omega
    generalize (peak - attach) * 15 = num at i_lt
    generalize span - attach = den at i_lt den_pos
    have rest_le : num % den ≤ den := (Nat.mod_lt _ den_pos).le
    have low := entry (num / den) (by omega)
    have high := entry (num / den + 1) (by omega)
    rw [getElem?_pos curve (num / den) (by omega), getElem?_pos curve (num / den + 1) (by omega)]
    simp only [Option.getD_some]
    obtain ⟨lo, hi⟩ := interpolate_between (lo := 1) (hi := 127) (rest := num % den) (den := den)
      (a := curve[num / den]) (b := curve[num / den + 1]) (by omega) (by omega) rest_le
    have bounds := roundAway_between den_pos (by decide) lo hi
    omega

/-! ### Zones -/

theorem zoneSearchFrom_mem {zones : Vector ZoneRecord 32} {raw visits : Nat} {link : Option (Fin 32)} {z : ZoneRecord}
    (found : zoneSearchFrom zones raw visits link = some z) : ∃ i, zones.get i = z := by
  induction visits generalizing link with
  | zero => cases found
  | succ visits ih =>
    cases link with
    | none => cases found
    | some i =>
      rw [zoneSearchFrom] at found
      split at found
      · exact ⟨i, Option.some.inj found⟩
      · exact ih found

/-- A matched zone is one of the table's, so its copy is in range. -/
theorem TablesSound.copy_inRange {tb : Tables} (h : TablesSound tb) {head : Option (Fin 32)} {raw : Nat} {z : ZoneRecord}
    (found : zoneSearch tb.zones head raw = some z) : z.copy.InRange := by
  obtain ⟨i, rfl⟩ := zoneSearchFrom_mem found
  obtain ⟨-, -, -, zones, -⟩ := h
  obtain ⟨-, -, one, sixteen, low, high, -, bend⟩ := zones i
  exact ⟨⟨one, sixteen⟩, low, high, bend⟩

theorem glideValue_mem {z : ZoneCopy} (hz : z.InRange) (q held : Nat) : -1536 ≤ (glideValue z q held).1 ∧ (glideValue z q held).1 ≤ 1536 := by
  obtain ⟨-, -, -, bend⟩ := hz
  have := clampInt_mem (lo := -(64 * (z.bendRange : Int))) (hi := 64 * z.bendRange) (by omega) ((q : Int) - 64 * held)
  unfold glideValue
  dsimp only
  omega

/-! ### Parts of a unit -/

/-- The numbers of a struck note are in range. -/
def Struck.InRange (note : Struck) : Prop :=
  note.held ≤ 127 ∧ (∀ z, note.zone = some z → z.InRange) ∧ ∀ o, note.output = some o → o ≤ 127

/-- A context's numbers are in range. -/
def Context.InRange (c : Context) : Prop := ∀ note, c = .struck note → note.InRange

/-- A pitch record's numbers are in range. -/
def Pitch.InRange (p : Pitch) : Prop := ∀ q raw, p = .held q raw ∨ p = .tracking q raw → q ≤ 8191 ∧ raw ≤ 127

theorem Context.inRange_empty : Context.empty.InRange := fun _ h => by cases h
theorem Context.inRange_pending (d : Deadline) : (Context.pending d).InRange := fun _ h => by cases h
theorem Context.inRange_struck {note : Struck} (h : note.InRange) : (Context.struck note).InRange := fun _ e => by cases e; exact h
theorem Context.InRange.struck {note : Struck} (h : (Context.struck note).InRange) : note.InRange := h note rfl
theorem Pitch.inRange_none : Pitch.none.InRange := fun _ _ h => by rcases h with h | h <;> cases h
theorem Pitch.inRange_held {q raw : Nat} (h : q ≤ 8191 ∧ raw ≤ 127) : (Pitch.held q raw).InRange := fun _ _ e => by
  rcases e with e | e <;> cases e; exact h
theorem Pitch.inRange_tracking {q raw : Nat} (h : q ≤ 8191 ∧ raw ≤ 127) : (Pitch.tracking q raw).InRange := fun _ _ e => by
  rcases e with e | e <;> cases e; exact h

/-- Q and N_raw of a period are in range. -/
theorem pitchOf_rawNote_le (device : DeviceRecord) (period : Nat) :
    pitchOf device period ≤ 8191 ∧ rawNote (pitchOf device period) ≤ 127 := ⟨pitchOf_le _ _, rawNote_le _⟩

section
variable {u : StringUnit} (h : u.InRange)
include h

theorem StringUnit.InRange.context : u.context.InRange := h.2.2.2.2.1

theorem StringUnit.InRange.withContext {c : Context} (hc : c.InRange) : ({ u with context := c } : StringUnit).InRange := by
  obtain ⟨queue, glide, press, group, -, pitch⟩ := h
  exact ⟨queue, glide, press, group, hc, pitch⟩

theorem StringUnit.InRange.withPitch {p : Pitch} (hp : p.InRange) : ({ u with pitch := p } : StringUnit).InRange := by
  obtain ⟨queue, glide, press, group, context, -⟩ := h
  exact ⟨queue, glide, press, group, context, hp⟩

theorem StringUnit.InRange.withQueue {records : List NoteRecord} (hr : ∀ r ∈ records, r.InRange) :
    ({ u with queue := records } : StringUnit).InRange := by
  obtain ⟨-, glide, press, group, context, pitch⟩ := h
  exact ⟨hr, glide, press, group, context, pitch⟩

theorem StringUnit.InRange.pushed {r : NoteRecord} (hr : r.InRange) : ({ u with queue := u.queue ++ [r] } : StringUnit).InRange :=
  h.withQueue fun x hx => by
    rcases List.mem_append.mp hx with old | new
    · exact h.1 x old
    · rw [List.mem_singleton] at new; subst new; exact hr

theorem StringUnit.InRange.withGlide {g : Option Glide} (hg : ∀ x, g = some x → (1 ≤ x.channel ∧ x.channel ≤ 16) ∧ -1536 ≤ x.value ∧ x.value ≤ 1536) :
    ({ u with glide := g } : StringUnit).InRange := by
  obtain ⟨queue, -, press, group, context, pitch⟩ := h
  exact ⟨queue, hg, press, group, context, pitch⟩

theorem StringUnit.InRange.withPress {p : Option Press} (hp : ∀ x, p = some x → (1 ≤ x.channel ∧ x.channel ≤ 16) ∧ x.level ≤ 127) :
    ({ u with press := p } : StringUnit).InRange := by
  obtain ⟨queue, glide, -, group, context, pitch⟩ := h
  exact ⟨queue, glide, hp, group, context, pitch⟩

theorem StringUnit.InRange.withGroup {g : Option Group} (hg : ∀ x, g = some x → (1 ≤ x.channel ∧ x.channel ≤ 16) ∧ x.note ≤ 127) :
    ({ u with group := g } : StringUnit).InRange := by
  obtain ⟨queue, glide, press, -, context, pitch⟩ := h
  exact ⟨queue, glide, press, hg, context, pitch⟩

theorem StringUnit.InRange.clearContext : u.clearContext.InRange :=
  (h.withContext Context.inRange_empty).withPitch Pitch.inRange_none

/-- One LIFT, or none, in a flushed queue (R114, R127). -/
theorem StringUnit.InRange.flushed (stamp : Index) (cause : LiftCause) : u.flush.InRange ∧ (u.flush.placeLift stamp cause).InRange := by
  have empty : u.flush.InRange :=
    ((h.withQueue (records := []) (by simp)).withGlide (g := none) (by simp)).withPress (p := none) (by simp)
  exact ⟨empty, empty.withQueue (records := [.lift stamp cause]) (by simp [NoteRecord.InRange])⟩

/-! ### The queue and the slots -/

theorem StringUnit.InRange.offerLift (mode : OutputMode) (stamp : Index) (cause : LiftCause) :
    (offerLift mode stamp cause u).InRange := by
  rcases offerLift_cases mode stamp cause u with ⟨-, e⟩ | ⟨-, -, e⟩ <;> rw [e]
  · exact h
  · exact ((h.pushed (r := .lift stamp cause) trivial).withGlide (g := none) (by simp)).withPress (p := none) (by simp)

theorem StringUnit.InRange.offerStrike (mode : OutputMode) {record : NoteRecord} (hr : record.InRange) :
    (offerStrike mode record u).1.InRange := by
  rcases offerStrike_cases mode record u with ⟨-, e⟩ | ⟨-, -, e⟩ | ⟨-, -, e⟩ <;> rw [e]
  · exact h
  · exact h.pushed hr
  · exact h

omit h in
/-- A merge moves the tail to a note in range (R109). -/
theorem mergeQueue_inRange {note : Nat} (hn : note ≤ 127) {correction : Bool} {queue merged : List NoteRecord}
    (e : mergeQueue note correction queue = some merged) (hq : ∀ r ∈ queue, r.InRange) : ∀ r ∈ merged, r.InRange := by
  unfold mergeQueue at e
  split at e
  · next tail last =>
    obtain ⟨t, moved, rfl⟩ := Option.map_eq_some_iff.mp e
    have tail_range := hq tail (List.mem_of_getLast? last)
    have t_range : t.InRange := by
      cases tail <;> simp only [mergedTail, Option.some.injEq, reduceCtorEq] at moved
      · subst moved
        obtain ⟨channel, -, vel⟩ := tail_range
        exact ⟨channel, hn, vel⟩
      · subst moved
        obtain ⟨channel, -⟩ := tail_range
        exact ⟨channel, hn⟩
    intro r hr
    rcases List.mem_append.mp hr with front | new
    · exact hq r (List.dropLast_subset _ front)
    · rw [List.mem_singleton] at new; subst new; exact t_range
  · cases e

theorem StringUnit.InRange.offerShift (mode : OutputMode) {channel note : Nat} (hc : 1 ≤ channel ∧ channel ≤ 16) (hn : note ≤ 127)
    (stamp : Index) (correction : Bool) : (offerShift mode channel note stamp correction u).InRange := by
  rcases offerShift_cases mode channel note stamp correction u with ⟨-, e⟩ | ⟨-, -, e⟩ | ⟨-, -, queue, merged, e⟩ | ⟨-, -, -, e⟩ <;> rw [e]
  · exact h
  · exact h.pushed ⟨hc, hn⟩
  · exact h.withQueue (mergeQueue_inRange hn merged h.1)
  · exact h

theorem StringUnit.InRange.endNote (mode : OutputMode) (stamp : Index) (cause : LiftCause) : (endNote mode stamp cause u).InRange := by
  unfold Machine.endNote
  split
  · split
    · exact (h.offerLift mode stamp cause).clearContext
    · exact h.clearContext
  · exact h.clearContext
  · exact h.clearContext

theorem StringUnit.InRange.endForced (mode : OutputMode) (stamp : Index) (cause : LiftCause) : (endForced mode stamp cause u).InRange := by
  unfold Machine.endForced
  split
  · exact h.endNote mode stamp cause
  · exact h.clearContext
  all_goals exact h

/-! ### Continuous values, timers -/

theorem StringUnit.InRange.glideDecision (r : StringRecord) (stamp : Index) : (glideDecision r stamp u).InRange := by
  unfold Machine.glideDecision
  split
  · next note q raw context _ =>
    have hn := (context ▸ h.context).struck
    split
    · next z zone =>
      have hz := hn.2.1 z zone
      dsimp only
      split
      · have moved : ({ u with context := .struck { note with lastGlide := (glideValue z q note.held).1, glideTimer := r.glideInterval } } :
            StringUnit).InRange := h.withContext (Context.inRange_struck hn)
        unfold offerGlide
        split
        · exact moved
        · exact moved.withGlide fun x e => by cases e; exact ⟨hz.1, glideValue_mem hz q note.held⟩
      · exact h
    · exact h
  · exact h

theorem StringUnit.InRange.pressDecision (r : StringRecord) {level : Nat} (hl : level ≤ 127) (stamp : Index) :
    (pressDecision r level stamp u).InRange := by
  unfold Machine.pressDecision
  split
  · next note _ _ context _ =>
    have hn := (context ▸ h.context).struck
    split
    · next z zone =>
      have hz := hn.2.1 z zone
      split
      · have moved : ({ u with context := .struck { note with lastPress := level, pressTimer := r.pressInterval } } : StringUnit).InRange :=
          h.withContext (Context.inRange_struck hn)
        unfold offerPress
        split
        · exact moved
        · exact moved.withPress fun x e => by cases e; exact ⟨hz.1, hl⟩
      · exact h
    · exact h
  · exact h

theorem StringUnit.InRange.frameMark (stamp : Index) : (frameMark stamp u).InRange := by
  unfold Machine.frameMark
  split
  · exact h.withContext (Context.inRange_pending _)
  · next note context => exact h.withContext (Context.inRange_struck (context ▸ h.context).struck)
  all_goals exact h

/-! ### Notes -/

theorem StringUnit.InRange.soundingUnit (tb : Tables) (period : Nat) (atLock : Bool) : (soundingUnit tb period atLock u).InRange := by
  have pitch := pitchOf_rawNote_le tb.device period
  cases atLock
  · exact h.withPitch (Pitch.inRange_held pitch)
  · exact h.withPitch (Pitch.inRange_tracking pitch)

theorem StringUnit.InRange.strike {tb : Tables} (sound : TablesSound tb) (n : StringNo) (period : Nat) (stamp : Index) (atLock : Bool) :
    (strike tb n period stamp atLock u).InRange := by
  have raw := rawNote_le (pitchOf tb.device period)
  have sounding := h.soundingUnit tb period atLock
  rcases strike_cases tb n period u with left | ⟨attack, unmatched⟩ | ⟨attack, z, found⟩
  · rw [strike_of_not_attack left]; exact h
  · rw [strike_of_no_zone attack unmatched]
    exact sounding.withContext (Context.inRange_struck ⟨raw, by simp [newNote], by simp [newNote]⟩)
  · have copied := sound.copy_inRange found
    have recorded : (strikeRecord tb n z (rawNote (pitchOf tb.device period)) stamp atLock u).InRange := by
      obtain ⟨-, strings, -, -, curves⟩ := sound
      obtain ⟨-, below, -⟩ := strings n
      exact ⟨copied.1, fold_le _, velocity_mem _ (curves _) below⟩
    rw [strike_of_zone attack found]
    have offered := sounding.offerStrike (tb.strings.get n).outputMode recorded
    dsimp only
    generalize Machine.offerStrike (tb.strings.get n).outputMode _ (Machine.soundingUnit tb period atLock u) = result at offered
    have announced := offered.withContext (Context.inRange_struck (note :=
      { newNote (rawNote (pitchOf tb.device period)) (some z.copy) (!atLock) with announced := result.2 })
      ⟨raw, fun _ e => by cases e; exact copied, fun _ e => by cases e; exact fold_le _⟩)
    split
    · exact announced.glideDecision _ _
    · exact announced

theorem StringUnit.InRange.changeNote (r : StringRecord) {raw : Nat} (hr : raw ≤ 127) (stamp : Index) (correction : Bool) {note : Struck}
    (hn : note.InRange) : (changeNote r raw stamp correction note u).InRange := by
  obtain ⟨-, zones, outputs⟩ := hn
  unfold Machine.changeNote
  split
  · exact h.withContext (Context.inRange_struck ⟨hr, zones, outputs⟩)
  · next z zone =>
    have moved : ({ u with context := .struck { note with held := raw, output := some (fold (raw + z.transpose)) } } : StringUnit).InRange :=
      h.withContext (Context.inRange_struck ⟨hr, zones, fun o e => by cases e; exact fold_le _⟩)
    dsimp only
    split
    · exact moved.offerShift _ (zones z zone).1 (fold_le _) _ _
    · exact moved

theorem StringUnit.InRange.followRaw (r : StringRecord) {raw : Nat} (hr : raw ≤ 127) (stamp : Index) (correction : Bool) {note : Struck}
    (hn : note.InRange) : (followRaw r raw stamp correction note u).InRange := by
  unfold Machine.followRaw
  refine StringUnit.InRange.glideDecision ?_ _ _
  split
  · exact h.withContext (Context.inRange_struck hn)
  · exact h.changeNote r hr stamp correction hn

theorem StringUnit.InRange.lockReport {tb : Tables} (sound : TablesSound tb) (n : StringNo) (period : Nat) (stamp : Index) :
    (lockReport tb n period stamp u).InRange := by
  unfold Machine.lockReport
  split
  · split
    · exact h
    · exact h.strike sound n period stamp true
    · next note context =>
      have hn : note.InRange := (context ▸ h.context).struck
      exact (h.withPitch (Pitch.inRange_tracking (pitchOf_rawNote_le tb.device period))).followRaw _ (rawNote_le _) _ _ hn
  · exact h

theorem StringUnit.InRange.takeReport {tb : Tables} (sound : TablesSound tb) (n : StringNo) : (takeReport tb n u).InRange := by
  unfold Machine.takeReport
  split
  · exact h
  · next report stamp _ =>
    have taken : ({ u with due := { u.due with report := none } } : StringUnit).InRange := h
    generalize ({ u with due := { u.due with report := none } } : StringUnit) = v at taken
    have tracked : ∀ period, ({ v with pitch := .tracking (pitchOf tb.device period) (rawNote (pitchOf tb.device period)) } : StringUnit).InRange :=
      fun period => taken.withPitch (Pitch.inRange_tracking (pitchOf_rawNote_le tb.device period))
    cases report with
    | hit period =>
      simp only [hitReport]
      split
      · exact taken
      · next note context _ =>
        have hn := (context ▸ taken.context).struck
        split
        · exact (tracked period).followRaw _ (rawNote_le _) _ _ hn
        · exact (tracked period).glideDecision _ _
      · exact taken
    | jump period =>
      simp only [jumpReport]
      split
      · exact taken
      · next note context _ => exact (tracked period).followRaw _ (rawNote_le _) _ _ (context ▸ taken.context).struck
      · exact taken
    | searchPass sum =>
      simp only [searchPassReport]
      split
      · exact taken.strike sound n _ _ _
      · exact taken

theorem StringUnit.InRange.takeLock {tb : Tables} (sound : TablesSound tb) (n : StringNo) : (takeLock tb n u).InRange := by
  unfold Machine.takeLock
  split
  · exact h
  · refine StringUnit.InRange.lockReport ?_ sound n _ _
    exact h

theorem StringUnit.InRange.takeExpiry {tb : Tables} (sound : TablesSound tb) (n : StringNo) : (takeExpiry tb n u).InRange := by
  unfold Machine.takeExpiry expireDeadline
  split
  · exact h
  · have locked := h.takeLock sound n
    dsimp only
    split
    · split
      · refine StringUnit.InRange.strike ?_ sound n _ _ _
        exact locked
      · refine StringUnit.InRange.withContext ?_ (Context.inRange_pending _)
        exact locked
    · exact locked

/-- A lock loss holds the pitch at the values it had (R75). -/
theorem StringUnit.InRange.takeLockLoss : (takeLockLoss u).InRange := by
  unfold Machine.takeLockLoss lossReport
  split
  · exact h
  · dsimp only
    split
    · exact h
    · exact h
    · next q raw pitch =>
      refine StringUnit.InRange.withPitch ?_ (Pitch.inRange_held (h.2.2.2.2.2 q raw (.inr pitch)))
      exact h

/-! ### The blocks and the events -/

theorem takeOutcome_inRange (stamp : Index) (outcome : TrackOutcome) : (takeOutcome stamp outcome u).InRange := by
  cases outcome <;> exact h

theorem StringUnit.InRange.envelopeSample {tb : Tables} (n : StringNo) (y : Int) (stamp : Index) :
    (envelopeSample (tb.strings.get n) y stamp u).InRange := by
  have attack : ∀ (r : StringRecord) level (v : StringUnit), v.InRange → (beginAttack r level v).InRange := fun r level v hv =>
    (hv.withContext (Context.inRange_pending (newDeadline r))).withPitch Pitch.inRange_none
  unfold Machine.envelopeSample
  dsimp only
  split
  · unfold envelopeIdle
    split
    · exact attack _ _ _ h
    · exact h
  · unfold envelopeAttack
    refine StringUnit.InRange.frameMark ?_ _
    split <;> exact h
  · unfold envelopeSounding
    dsimp only
    split
    · refine StringUnit.InRange.frameMark ?_ _
      exact h
    · split
      · refine attack _ _ _ (StringUnit.InRange.endNote ?_ _ _ _)
        exact h
      · refine StringUnit.InRange.pressDecision (StringUnit.InRange.frameMark ?_ _) _ (Nat.min_le_left _ _) _
        exact h
  · exact h
  all_goals exact h

theorem StringUnit.InRange.trackerSample (tb : Tables) (n : StringNo) (y : Int) (stamp : Index) : (trackerSample tb n y stamp u).InRange := by
  unfold Machine.trackerSample
  split
  · exact h
  · refine takeOutcome_inRange ?_ _ _
    exact h

theorem StringUnit.InRange.monitorSample (r : StringRecord) (x : Int) (flag : Bool) (stamp : Index) : (monitorSample r x flag stamp u).InRange := by
  unfold Machine.monitorSample countWait judgeTest
  split
  · exact h
  · exact h
  · exact h
  · exact h
  · exact h
  · exact h
  · dsimp only; split <;> exact h
  · exact h

theorem StringUnit.InRange.enterFault (r : StringRecord) (cause : Cause) (stamp : Index) : (enterFault r cause stamp u).InRange := by
  have ended := h.endForced r.outputMode stamp .fault
  unfold Machine.enterFault
  exact ended

theorem StringUnit.InRange.unitEvent {tb : Tables} (sound : TablesSound tb) (n : StringNo) (e : Event) : (unitEvent tb n e u).InRange := by
  cases e with
  | report => exact h.takeReport sound n
  | release =>
    simp only [Machine.unitEvent, takeRelease]
    split
    · exact h
    · split
      · have cleared := h.clearContext
        exact cleared
      · refine (show StringUnit.InRange (Machine.endNote _ _ _ _) from StringUnit.InRange.endNote ?_ _ _ _)
        exact h
      all_goals exact h
  | strikeDeadlineExpiry => exact h.takeExpiry sound n
  | dampExit => simp only [Machine.unitEvent, takeDampExit]; split <;> (try split) <;> exact h
  | staleCrossing =>
    simp only [Machine.unitEvent, takeStale]
    split
    · exact h
    · refine takeOutcome_inRange ?_ _ _
      exact h
  | lockLoss => exact h.takeLockLoss
  | lock => exact h.takeLock sound n
  | faultEntry =>
    simp only [Machine.unitEvent, faultEntryUnit]
    split
    · exact h
    · split
      all_goals first
        | exact h
        | (refine StringUnit.InRange.enterFault ?_ _ _ _; exact h)
  | faultWaitEnd => simp only [Machine.unitEvent, takeWaitEnd]; split <;> (try split) <;> exact h
  | recovery => simp only [Machine.unitEvent, recoveryUnit]; split <;> (try split) <;> exact h

theorem StringUnit.InRange.huntString (r : StringRecord) (stamp : Index) : (huntString r stamp u).InRange := by
  have ended := h.endForced r.outputMode stamp .link
  unfold Machine.huntString
  split <;> first | exact ended | exact h

theorem StringUnit.InRange.changeEnable (old new : Bool) (mode : OutputMode) (stamp : Index) : (changeEnable old new mode stamp u).InRange := by
  have ended := h.endForced mode stamp .disabled
  unfold Machine.changeEnable
  split
  · exact h
  · split
    · split <;> exact h
    · exact ended

theorem StringUnit.InRange.changeMode (old new : OutputMode) (inFlight : Bool) (stamp : Index) :
    (changeMode old new inFlight stamp u).InRange := by
  have unannounced : u.context.unannounce.InRange := by
    cases context : u.context with
    | struck note => exact Context.inRange_struck (context ▸ h.context).struck
    | pending d => exact Context.inRange_pending d
    | empty => exact Context.inRange_empty
  unfold Machine.changeMode mutedEntry
  split
  · dsimp only
    split
    · exact ((h.withContext unannounced).flushed stamp .mute).2
    · exact ((h.withContext unannounced).flushed stamp .mute).1
  · exact h

theorem StringUnit.InRange.dampString (r : StringRecord) (stamp : Index) : (dampString r stamp u).1.InRange := by
  have ended := h.endNote r.outputMode stamp .forced
  have cleared := h.clearContext
  unfold Machine.dampString
  split
  · exact ended
  · exact cleared
  all_goals exact h

theorem StringUnit.InRange.resetQueue (stamp : Index) : (resetQueue stamp u).InRange := by
  obtain ⟨empty, lifted⟩ := h.flushed stamp .reset
  unfold Machine.resetQueue
  dsimp only
  split
  · exact lifted
  · exact empty

theorem StringUnit.InRange.resetString (full : Bool) : (resetString full u).InRange := by
  have cleared := h.clearContext
  exact cleared

end

end Sys2Proof.Machine
end

section
/-! Every step keeps the numbers that the part sends in range. -/

namespace Sys2Proof.Machine

/-- The numbers of a string's unit and of the message in flight are in range, and the tables sound. -/
def numbersUnit : UnitPred := fun tb _ tx _ u => TablesSound tb ∧ u.InRange ∧ tx.InRange

/-- The message that a taken record becomes delivers numbers in range (R121, R124). -/
theorem takenTx_inRange (device : DeviceRecord) (n : StringNo) (group : Option Group) {record : NoteRecord} (h : record.InRange) :
    (takenTx (noteMessage device n group record)).InRange := by
  cases record with
  | strike channel note velocity stamp provisional merged =>
    obtain ⟨channel_range, note_range, -⟩ := h
    exact ⟨channel_range, note_range⟩
  | shift channel note stamp correction merged =>
    obtain ⟨-, note_range⟩ := h
    cases group <;> trivial
  | lift stamp cause => cases group <;> trivial

/-- A completion leaves a group in range (R124). -/
theorem completeUnit_inRange {m : InFlight} (hm : (TxState.sending m).InRange) (n : StringNo) {u : StringUnit} (h : u.InRange) :
    (completeUnit m.item n u).InRange := by
  obtain ⟨-, -, -, groups, -, -⟩ := id h
  unfold TxState.InRange at hm
  cases item : m.item <;> simp only [item] at hm <;> simp only [completeUnit]
  · split
    · exact h.withGroup fun g e => by cases e; exact hm
    · exact h
  · split
    · refine h.withGroup fun g e => ?_
      obtain ⟨old, before, rfl⟩ := Option.map_eq_some_iff.mp e
      exact ⟨(groups old before).1, hm⟩
    · exact h
  · split
    · exact h.withGroup (by simp)
    · exact h
  · exact h

theorem StringUnit.powerOn_inRange : StringUnit.powerOn.InRange :=
  ⟨by simp [StringUnit.powerOn], by simp [StringUnit.powerOn], by simp [StringUnit.powerOn], by simp [StringUnit.powerOn],
    Context.inRange_empty, Pitch.inRange_none⟩

theorem numbersUnit_frameKept : UnitFrameKept numbersUnit where
  envelope y index h := ⟨h.1, h.2.1.envelopeSample _ y index, h.2.2⟩
  tracker y index h := ⟨h.1, h.2.1.trackerSample _ _ y index, h.2.2⟩
  monitor x flag index h := ⟨h.1, h.2.1.monitorSample _ x flag index, h.2.2⟩
  event e h := ⟨h.1, h.2.1.unitEvent h.1 _ e, h.2.2⟩
  hunt index h := ⟨h.1, h.2.1.huntString _ index, h.2.2⟩
  sync h := h
  dropped h := h

theorem numbersUnit_kept : UnitKept numbersUnit fun _ => numbersUnit where
  toUnitFrameKept := numbersUnit_frameKept
  powerOn _ := ⟨Tables.default_sound, StringUnit.powerOn_inRange, trivial⟩
  device bytes h := ⟨h.1.setDevice (readDevice_sound bytes), h.2⟩
  row m bytes h := ⟨h.1.setRow m (readRow_sound m bytes), h.2⟩
  zone i mode bytes h := ⟨h.1.setZone i (readZone_sound mode bytes), h.2⟩
  curve i bytes h := ⟨h.1.setCurve i (readCurve_sound bytes), h.2⟩
  written r index formed h :=
    ⟨h.1.setString _ (h.1.written_sound formed), (h.2.1.changeMode _ _ _ index).changeEnable _ _ _ index, h.2.2⟩
  writtenOther m r _ formed h := ⟨h.1.setString m (h.1.written_sound formed), h.2⟩
  recovered _ h := h
  damped index h := ⟨h.1, h.2.1.dampString _ index, h.2.2⟩
  cleared h := h
  completed h := ⟨h.1, completeUnit_inRange h.2.2 _ h.2.1, trivial⟩
  moved _ h := h
  aborted h := h
  sentOther _ h := h
  noGlide h := ⟨h.1, h.2.1.withGlide (by simp), h.2.2⟩
  noPress h := ⟨h.1, h.2.1.withPress (by simp), h.2.2⟩
  taken {tb p n u record rest} queue h := by
    obtain ⟨tables, unit, -⟩ := h
    have all := unit.1
    rw [queue] at all
    exact ⟨tables, unit.withQueue fun r hr => all r (by simp [hr]), takenTx_inRange _ _ _ (all record (by simp))⟩
  takenOther {tb p n u record rest} m v _ queue hv h := by
    obtain ⟨tables, unit, -⟩ := h
    exact ⟨tables, unit, takenTx_inRange _ _ _ (hv.2.1.1 record (by simp [queue]))⟩
  reset {tb p tx n u} full index h := by
    obtain ⟨tables, unit, -⟩ := h
    refine ⟨resetTb_sound full tables, ?_, by cases tx <;> trivial⟩
    have taken := (unit.resetQueue index).resetString full
    cases full <;> exact taken
  lateFrame _ := numbersUnit_frameKept
  late {tb p tx n u} full index h := by
    obtain ⟨tables, unit, -⟩ := h
    refine ⟨resetTb_sound full tables, ?_, by cases tx <;> trivial⟩
    have flushed := unit.resetQueue index
    cases full <;> exact flushed
  lateReset full h := ⟨h.1, h.2.1.resetString full, h.2.2⟩

/-- Settles O12: each of the note engine's numbers is clamped, folded or interpolated between entries in range. -/
theorem sentNumbersKeptInRange : Obligations.SentNumbersKeptInRange := by
  intro s t tables ⟨units, tx⟩ stepped
  have kept := numbersUnit_kept.stepKept.step (fun _ _ h => h) (s := s) (t := t) (fun n => ⟨tables, units n, tx⟩) stepped
  exact ⟨fun n => (kept n).2.1, (kept .s1).2.2⟩

end Sys2Proof.Machine
end

section
/-! The elastic store's fill (R149 to R157): what every operation keeps of it. -/

namespace Sys2Proof.Machine

/-! ### The store's operations -/

@[simp] theorem Store.flush_state (state : StoreState) (st : Store) : (st.flush state).state = state := rfl
@[simp] theorem Store.flush_fill (state : StoreState) (st : Store) : (st.flush state).fill = 0 := rfl
@[simp] theorem Store.put_state (record : FrameRecord) (st : Store) : (Store.put record st).state = st.state := rfl
@[simp] theorem Store.put_fill (record : FrameRecord) (st : Store) : (Store.put record st).fill = st.fill + 1 := rfl
@[simp] theorem Store.put_write (record : FrameRecord) (st : Store) : (Store.put record st).write = advance st.write 1 := rfl
@[simp] theorem Store.put_read (record : FrameRecord) (st : Store) : (Store.put record st).read = st.read := rfl
@[simp] theorem Store.take_state (st : Store) : st.take.1.state = st.state := rfl
@[simp] theorem Store.take_fill (st : Store) : st.take.1.fill = st.fill - 1 := rfl
@[simp] theorem Store.take_write (st : Store) : st.take.1.write = st.write := rfl
@[simp] theorem Store.take_read (st : Store) : st.take.1.read = advance st.read 1 := rfl
@[simp] theorem Store.take_slots (st : Store) : st.take.1.slots = st.slots := rfl
@[simp] theorem Store.repeatSlip_state (st : Store) : st.repeatSlip.state = st.state := rfl
@[simp] theorem Store.repeatSlip_fill (st : Store) : st.repeatSlip.fill = 16 := rfl
@[simp] theorem Store.repeatSlip_write (st : Store) : st.repeatSlip.write = st.write := rfl
@[simp] theorem Store.repeatSlip_read (st : Store) : st.repeatSlip.read = retreat st.read (16 - st.fill) := rfl
@[simp] theorem Store.repeatSlip_slots (st : Store) : st.repeatSlip.slots = st.slots := rfl
@[simp] theorem Store.dropSlip_state (st : Store) : st.dropSlip.state = st.state := by rw [Store.dropSlip]
@[simp] theorem Store.dropSlip_fill (st : Store) : st.dropSlip.fill = st.fill - (st.fill + 1 - 16) := rfl
@[simp] theorem Store.dropSlip_write (st : Store) : st.dropSlip.write = st.write := by rw [Store.dropSlip]
@[simp] theorem Store.dropSlip_read (st : Store) : st.dropSlip.read = advance st.read (st.fill + 1 - 16) := rfl
@[simp] theorem Store.dropSlip_slots (st : Store) : st.dropSlip.slots = st.slots := by rw [Store.dropSlip]

theorem advance_eq_iff {p q : Fin 32} {k : Nat} : p = advance q k ↔ p.val = (q.val + k) % 32 := by
  rw [Fin.ext_iff, advance_val]

/-! ### The fill -/

section
variable {st : Store}

theorem Store.Sound.flush (state : StoreState) (flowing : state ≠ .flowing) (st : Store) : (st.flush state).Sound := by
  refine ⟨?_, by simp, by simp, fun e => absurd e flowing⟩
  rw [advance_eq_iff]
  exact (Nat.mod_eq_of_lt st.write.isLt).symm

theorem Store.Sound.huntFlush (st : Store) : st.huntFlush.Sound := by
  unfold Store.huntFlush
  split <;> exact Store.Sound.flush _ (by decide) st

theorem Store.Sound.accept (h : st.Sound) (record : FrameRecord) : (st.accept record).1.Sound := by
  obtain ⟨lead, halted, prefill, flowing⟩ := h
  rw [advance_eq_iff] at lead
  rcases st.admit_cases record with ⟨state, e⟩ | ⟨state, fill, e⟩ | ⟨state, fill, e⟩ | ⟨state, fill, e⟩ | ⟨state, fill, e⟩ <;>
    rw [e] <;> dsimp only [Store.Sound] <;> rw [advance_eq_iff]
  · exact ⟨lead, halted, prefill, flowing⟩
  · refine ⟨?_, by simp, by simp, by simp [fill]⟩
    simp only [Store.put_write, Store.put_read, Store.put_fill, advance_val]; omega
  · have := prefill state
    refine ⟨?_, by simp [state], by simp only [Store.put_fill]; omega, by simp [state]⟩
    simp only [Store.put_write, Store.put_read, Store.put_fill, advance_val]; omega
  · have := flowing state
    refine ⟨?_, by simp [state], by simp [state], by simp only [Store.put_fill]; omega⟩
    simp only [Store.put_write, Store.put_read, Store.put_fill, advance_val]; omega
  · have := flowing state
    refine ⟨?_, by simp [state], by simp [state], by simp only [Store.put_fill, Store.dropSlip_fill]; omega⟩
    simp only [Store.put_write, Store.put_read, Store.put_fill, Store.dropSlip_write, Store.dropSlip_read, Store.dropSlip_fill, advance_val]
    omega

theorem Store.Sound.readOut (h : st.Sound) : st.readOut.store.Sound := by
  obtain ⟨lead, halted, prefill, flowing⟩ := h
  rw [advance_eq_iff] at lead
  rcases st.readOut_cases with ⟨-, e⟩ | ⟨state, fill, e⟩ | ⟨state, fill, e⟩ <;> rw [e] <;> dsimp only [Store.Sound] <;> rw [advance_eq_iff]
  · exact ⟨lead, halted, prefill, flowing⟩
  · have := flowing state
    refine ⟨?_, by simp [state], by simp [state], by simp only [Store.take_fill]; omega⟩
    simp only [Store.take_write, Store.take_read, Store.take_fill, advance_val]; omega
  · have := flowing state
    refine ⟨?_, by simp [state], by simp [state], by simp⟩
    simp only [Store.take_write, Store.take_read, Store.take_fill, Store.repeatSlip_write, Store.repeatSlip_read, Store.repeatSlip_fill,
      advance_val, retreat_val]
    omega

/-- Writes and reads halt no store and start none (R157). -/
theorem Store.accept_halted (record : FrameRecord) (st : Store) : (st.accept record).1.state = .halted ↔ st.state = .halted := by
  rcases st.admit_cases record with ⟨state, e⟩ | ⟨state, fill, e⟩ | ⟨state, fill, e⟩ | ⟨state, fill, e⟩ | ⟨state, fill, e⟩ <;>
    simp [e, state]

theorem Store.readOut_state (st : Store) : st.readOut.store.state = st.state := by
  rcases st.readOut_cases with ⟨-, e⟩ | ⟨state, -, e⟩ | ⟨state, -, e⟩ <;> simp [e]

theorem Store.huntFlush_halted (st : Store) : st.huntFlush.state = .halted ↔ st.state = .halted := by
  unfold Store.huntFlush
  split <;> simp_all

end

/-! ### Every step -/

/-- The invariant speaks of the store and the clock's state alone. -/
theorem StoreClocked.of_eq {s t : State} (h : StoreClocked s) (store : t.store = s.store) (clock : t.synth.clock = s.synth.clock) :
    StoreClocked t := by
  unfold StoreClocked at h ⊢
  rwa [store, clock]

theorem StoreClocked.takePickupHunt (s : State) (h : StoreClocked s) : StoreClocked s.takePickupHunt := by
  unfold State.takePickupHunt
  split
  · refine StoreClocked.of_eq (s := { s with store := s.store.huntFlush }) ?_ (by simp [State.pickupHuntEntry]) (by simp [State.pickupHuntEntry])
    exact ⟨Store.Sound.huntFlush s.store, (Store.huntFlush_halted s.store).trans h.2⟩
  · exact h

theorem StoreClocked.takePickupSync (s : State) (h : StoreClocked s) : StoreClocked s.takePickupSync := by
  unfold State.takePickupSync
  split
  · exact h.of_eq (by simp [State.pickupSyncEntry]) (by simp [State.pickupSyncEntry])
  · exact h

theorem StoreClocked.offerRecord (s : State) (record : FrameRecord) (h : StoreClocked s) : StoreClocked (s.offerRecord record) :=
  StoreClocked.of_eq (s := { s with store := (s.store.accept record).1 })
    ⟨h.1.accept record, (Store.accept_halted record s.store).trans h.2⟩ (by simp) (by simp)

theorem StoreClocked.readStore (s : State) (h : StoreClocked s) : StoreClocked s.readStore.1 := by
  have read : StoreClocked { s with store := s.store.readOut.store } :=
    ⟨h.1.readOut, by rw [Store.readOut_state]; exact h.2⟩
  rcases s.readStore_cases with ⟨-, e⟩ | ⟨_, -, e⟩ <;> rw [e]
  · exact read
  · exact read.of_eq (by simp) (by simp)

theorem StoreClocked.clockLost (s : State) (h : StoreClocked s) : StoreClocked s.clockLost := by
  rcases s.clockLost_cases with ⟨-, e⟩ | ⟨-, _, _, e⟩ <;> rw [e]
  · exact h
  · exact ⟨Store.Sound.flush .halted (by decide) s.store, by simp⟩

theorem StoreClocked.clockReturn (s : State) (h : StoreClocked s) : StoreClocked s.clockReturn := by
  unfold State.clockReturn
  split
  · exact h
  · refine StoreClocked.of_eq (s := { s with store := s.store.flush .prefill, synth := { s.synth with clock := .present } }) ?_ (by simp) (by simp)
    exact ⟨Store.Sound.flush .prefill (by decide) s.store, by simp⟩

theorem StoreClocked.complete (s : State) (h : StoreClocked s) : StoreClocked s.complete := by
  obtain ⟨_, _, e⟩ := s.complete_shape
  rw [e]
  exact h

theorem storeClocked_frameKept : FrameKept StoreClocked where
  store := StoreClocked.offerRecord
  envelope _ _ _ _ _ h := h
  tracker _ _ _ _ h := h
  monitor _ _ _ _ _ h := h
  event s n e h := h.of_eq (by simp) (by simp)
  place _ _ h := h
  huntEntry := StoreClocked.takePickupHunt
  syncEntry := StoreClocked.takePickupSync
  judged _ _ _ h := h
  counted _ h := h
  sideByte s tag b h := by
    rcases s.pickupSideByte_cases tag b with ⟨_, -, e⟩ | ⟨_, -, e⟩ <;> rw [e] <;> exact h
  returned s h := by
    obtain ⟨_, _, e | ⟨_, _, -, e⟩⟩ := s.sendReturnFrame_cases <;> rw [e] <;> exact h

theorem storeClocked_kept : StepKept StoreClocked where
  powerOn s _ := StoreClocked.of_eq (s := State.reset) ⟨by decide, by decide⟩ rfl rfl
  pickupFrame s frame order h := storeClocked_frameKept.pickupFrame frame order s h
  event := storeClocked_frameKept.event
  huntEntry := StoreClocked.takePickupHunt
  syncEntry := StoreClocked.takePickupSync
  link _ _ _ h := h
  relayedUp _ _ _ h := h
  relayedDown _ _ _ h := h
  complete := StoreClocked.complete
  sideByte s h := State.sideByte_keeps (fun _ _ h => h)
    (State.pick_keeps (fun _ _ h => h) (fun _ _ _ h => h) (fun _ _ _ _ h => h) (fun _ _ _ _ h => h) fun _ _ _ _ h => h) s h
  readStore := StoreClocked.readStore
  sent _ _ h := h
  synthReceiver _ _ h := h
  synthSide _ _ _ h := h
  clockLost := StoreClocked.clockLost
  clockReturn := StoreClocked.clockReturn
  device _ _ h := h
  row _ _ _ h := h
  zone _ _ _ _ h := h
  curve _ _ _ h := h
  written _ _ _ _ h := h
  recovered s n _ h := h.of_eq (by simp) (by simp)
  damped _ _ h := h
  cleared _ _ h := h
  answered _ _ _ _ _ h := h
  reset s full tag order _ h := State.resetPart_keeps (fun s f o h => storeClocked_frameKept.pickupFrame f o s h)
    storeClocked_frameKept.event (fun _ _ h => h) StoreClocked.complete (fun _ _ _ h => h) (fun _ h => h) (fun _ h => h)
    (fun _ _ _ _ _ h => h) s full tag order h

/-- Settles O6: writes, reads, slips and flushes keep the fill in its range, and the clock's two commands keep HALTED tied to it. -/
theorem storeFillKept : Obligations.StoreFillKept := fun _ _ h stepped => storeClocked_kept.step (fun _ _ h => h) h stepped

end Sys2Proof.Machine
end

section
/-! The records that the store may still read, or repeat, carry consecutive indices (R154, R158). -/

namespace Sys2Proof.Machine

/-! ### The run of a store -/

/-- The records the store may still read carry consecutive indices up to `last`. -/
def Store.Run (last : Index) (st : Store) : Prop := ∀ j, j < st.runLength → (st.newest j).index = last - BitVec.ofNat 16 j

theorem Store.run_of_runLength_eq_zero {st : Store} (h : st.runLength = 0) (last : Index) : st.Run last := by
  intro j hj
  omega

/-- What the store reads next does not reach the run: it is counted back from the write position. -/
theorem Store.Run.of_eq {last : Index} {st st' : Store} (h : st.Run last) (slots : st'.slots = st.slots) (write : st'.write = st.write)
    (length : st'.runLength ≤ st.runLength) : st'.Run last := by
  intro j hj
  have := h j (by omega)
  simpa [Store.newest, slots, write] using this

/-- A record put into the slot at the write position is the newest, and the older ones move back by one (R150). -/
theorem Store.Run.written {last : Index} {st st' : Store} {record : FrameRecord} (h : st.Run last)
    (slots : st'.slots = st.slots.set st.write.val record) (write : st'.write = advance st.write 1)
    (length : st'.runLength ≤ st.runLength + 1) (fits : st'.runLength ≤ 31) (index : record.index = last + 1) : st'.Run (last + 1) := by
  intro j hj
  rw [Store.newest, slots, vector_get_set, write]
  have write_lt := st.write.isLt
  cases j with
  | zero =>
    have here : retreat (advance st.write 1) (0 + 1) = st.write := by
      rw [Fin.ext_iff, retreat_val, advance_val]; omega
    rw [if_pos here, index]
    simp
  | succ j =>
    have there : retreat (advance st.write 1) (j + 1 + 1) = retreat st.write (j + 1) := by
      rw [Fin.ext_iff, retreat_val, retreat_val, advance_val]; omega
    have other : retreat st.write (j + 1) ≠ st.write := by
      rw [Ne, Fin.ext_iff, retreat_val]; omega
    rw [there, if_neg other]
    have older := h j (by omega)
    rw [Store.newest] at older
    rw [older, BitVec.ofNat_add]
    show last - BitVec.ofNat 16 j = last + 1#16 - (BitVec.ofNat 16 j + 1#16)
    rw [BitVec.add_comm (BitVec.ofNat 16 j), ← BitVec.sub_sub, BitVec.add_sub_cancel]

theorem Store.Run.accept {last : Index} {st : Store} (sound : st.Sound) (h : st.Run last) {record : FrameRecord}
    (index : record.index = last + 1) : (st.accept record).1.Run (last + 1) := by
  obtain ⟨-, -, prefill, flowing⟩ := sound
  rcases st.admit_cases record with ⟨state, e⟩ | ⟨state, fill, e⟩ | ⟨state, fill, e⟩ | ⟨state, fill, e⟩ | ⟨state, fill, e⟩ <;> rw [e]
  · exact Store.run_of_runLength_eq_zero (by simp [Store.runLength, state]) _
  · refine h.written rfl rfl ?_ ?_ index <;> simp [Store.runLength, state, fill]
  · have := prefill state
    refine h.written rfl rfl ?_ ?_ index <;> simp only [Store.runLength, Store.put_state, Store.put_fill, state] <;> omega
  · refine h.written rfl rfl ?_ ?_ index <;> simp only [Store.runLength, Store.put_state, Store.put_fill, state] <;> omega
  · have := flowing state
    refine h.written (Store.dropSlip_slots st ▸ rfl) (Store.dropSlip_write st ▸ rfl) ?_ ?_ index <;>
      simp only [Store.runLength, Store.put_state, Store.put_fill, Store.dropSlip_state, Store.dropSlip_fill, state] <;> omega

theorem Store.Run.readOut {last : Index} {st : Store} (h : st.Run last) : st.readOut.store.Run last := by
  rcases st.readOut_cases with ⟨-, e⟩ | ⟨state, fill, e⟩ | ⟨state, fill, e⟩ <;> rw [e]
  · exact h
  · exact h.of_eq rfl rfl (by simp only [Store.runLength, Store.take_state, Store.take_fill, state]; omega)
  · exact h.of_eq rfl rfl (by simp only [Store.runLength, Store.take_state, Store.take_fill, Store.repeatSlip_state, Store.repeatSlip_fill, state]; omega)

theorem Store.huntFlush_runLength (st : Store) : st.huntFlush.runLength = 0 := by
  unfold Store.huntFlush
  split <;> rfl

/-! ### The run along the work on a frame -/

/-- While a frame is taken: its index is the part's, and the run reaches it once its record has been offered. -/
structure WorkRun (ws : Work × State) : Prop where
  sound : ws.2.store.Sound
  index : ws.1.index = ws.2.index
  run : ws.2.store.Run (if ws.1.offered then ws.2.index else ws.2.index - 1)

/-- Between frames: what is left in process is the latest frame, and the run reaches the latest record offered. -/
structure StoreRun (s : State) : Prop where
  sound : s.store.Sound
  latest : ∀ w, s.inProcess = some w → w.index = s.index
  run : s.store.Run s.lastOffered

/-- No record waits to be offered. -/
def State.CaughtUp (s : State) : Prop := ∀ w, s.inProcess = some w → w.offered = true

theorem State.CaughtUp.lastOffered {s : State} (h : s.CaughtUp) : s.lastOffered = s.index := by
  unfold State.lastOffered
  split
  · next w e => rw [if_pos (h w e)]
  · rfl

theorem StoreRun.of_eq {s t : State} (h : StoreRun s) (store : t.store = s.store) (index : t.index = s.index)
    (place : t.inProcess = s.inProcess) : StoreRun t := by
  obtain ⟨sound, latest, run⟩ := h
  refine ⟨by rwa [store], fun w e => ?_, ?_⟩
  · rw [index]; exact latest w (place ▸ e)
  · have : t.lastOffered = s.lastOffered := by unfold State.lastOffered; rw [place, index]
    rwa [this, store]

/-- What an act makes of the frame's own marks: the index stays, and the record is offered by the store's act alone. -/
theorem runAct_work (ws : Work × State) (act : FrameAct) :
    (runAct ws act).1.index = ws.1.index ∧ (runAct ws act).1.offered = (ws.1.offered || decide (act = .store)) := by
  obtain ⟨w, s⟩ := ws
  cases act <;> simp only [runAct] <;> (try split) <;> simp_all

/-- No act moves the part's index, and only the store's act on a record not yet offered moves the store. -/
theorem runAct_store (w : Work) (s : State) (act : FrameAct) : (runAct (w, s) act).2.index = s.index ∧
    ((w.offered = true ∨ act ≠ .store) → (runAct (w, s) act).2.store = s.store) := by
  rcases runAct_cases w s act with h | ⟨store, fresh, h⟩ | ⟨n, -, h⟩ | ⟨n, -, h⟩ | ⟨n, -, h⟩ | ⟨n, e, -, h⟩ | ⟨n, -, h⟩ <;> rw [h]
  · exact ⟨rfl, fun _ => rfl⟩
  · refine ⟨by simp, fun elsewhere => ?_⟩
    rcases elsewhere with offered | other
    · rw [fresh] at offered; cases offered
    · exact absurd store other
  · exact ⟨by simp, fun _ => by simp⟩
  · exact ⟨by simp, fun _ => by simp⟩
  · exact ⟨by simp, fun _ => by simp⟩
  · exact ⟨by simp, fun _ => by simp⟩
  · have kept := s.settle_keeps (P := fun t => t.index = s.index ∧ t.store = s.store) n (fun t e ht => by simpa using ht) ⟨rfl, rfl⟩
    exact ⟨kept.1, fun _ => kept.2⟩

theorem WorkRun.act (ws : Work × State) (act : FrameAct) (h : WorkRun ws) : WorkRun (runAct ws act) := by
  obtain ⟨w, s⟩ := ws
  obtain ⟨sound, index, run⟩ := h
  obtain ⟨same_index, offered⟩ := runAct_work (w, s) act
  obtain ⟨part_index, store⟩ := runAct_store w s act
  by_cases stored : w.offered = true ∨ act ≠ .store
  · refine ⟨by rw [store stored]; exact sound, by rw [same_index, part_index]; exact index, ?_⟩
    have same : (w.offered || decide (act = .store)) = w.offered := by
      rcases stored with already | other
      · simp [already]
      · simp [other]
    rw [store stored, part_index, offered, same]
    exact run
  · obtain ⟨fresh, rfl⟩ : w.offered = false ∧ act = .store := by simpa using stored
    rw [if_neg (by simp [fresh])] at run
    have e : (runAct (w, s) .store).2 = s.offerRecord (s.frameRecord w.raw (w.cancelled s) w.index) := by simp [runAct, fresh]
    refine ⟨by rw [e, State.offerRecord_store]; exact sound.accept _, by rw [same_index, part_index]; exact index, ?_⟩
    rw [offered, part_index, e, State.offerRecord_store]
    have reached := run.accept sound (record := s.frameRecord w.raw (w.cancelled s) w.index)
      (by rw [BitVec.sub_add_cancel]; exact index)
    rw [BitVec.sub_add_cancel] at reached
    simpa using reached

theorem WorkRun.acts (acts : List FrameAct) (ws : Work × State) (h : WorkRun ws) : WorkRun (acts.foldl runAct ws) :=
  foldl_runAct_keeps WorkRun.act acts ws h

/-- The marks of a frame at the end of a run of acts: offered if it was, or if the store's act was among them. -/
theorem foldl_runAct_offered (acts : List FrameAct) (ws : Work × State) (h : ws.1.offered = true ∨ .store ∈ acts) :
    (acts.foldl runAct ws).1.offered = true := by
  induction acts generalizing ws with
  | nil => simpa using h
  | cons a acts ih =>
    refine ih _ ?_
    rw [(runAct_work ws a).2]
    rcases h with offered | stored
    · simp [offered]
    · rcases List.mem_cons.mp stored with rfl | later
      · simp
      · exact .inr later

theorem State.runFrame_storeRun (w : Work) (acts : List FrameAct) (s : State) (h : WorkRun (w, s)) : StoreRun (s.runFrame w acts) := by
  obtain ⟨sound, index, run⟩ := WorkRun.acts acts (w, s) h
  unfold State.runFrame
  generalize acts.foldl runAct (w, s) = ws at sound index run
  obtain ⟨w', s'⟩ := ws
  refine ⟨sound, fun v e => ?_, ?_⟩
  · dsimp only at e
    split at e
    · cases e
    · cases e; exact index
  · unfold State.lastOffered
    dsimp only
    by_cases done : w'.done = true
    · have offered : w'.offered = true := by
        unfold Work.done at done
        exact (Bool.and_eq_true_iff.mp done).1
      rw [if_pos offered] at run
      simpa [done] using run
    · simpa [done] using run

theorem StoreRun.work {s : State} (h : StoreRun s) {w : Work} (left : s.inProcess = some w) : WorkRun (w, s) :=
  ⟨h.sound, h.latest w left, by have := h.run; unfold State.lastOffered at this; rw [left] at this; exact this⟩

theorem StoreRun.runLeft {s : State} (h : StoreRun s) (acts : List FrameAct) : StoreRun (s.runLeft acts) := by
  unfold State.runLeft
  split
  · exact h
  · next w left => exact State.runFrame_storeRun w acts s (h.work left)

theorem State.runLeft_caughtUp (acts : List FrameAct) (s : State) (h : s.CaughtUp ∨ .store ∈ acts) : (s.runLeft acts).CaughtUp := by
  unfold State.runLeft
  split
  · next none => intro w e; rw [none] at e; cases e
  · next w left =>
    intro v e
    have offered := foldl_runAct_offered acts (w, s) (h.imp_left fun caught => caught w left)
    unfold State.runFrame at e
    dsimp only at e
    split at e
    · cases e
    · cases e; exact offered

theorem StoreRun.takeEvent (s : State) (n : StringNo) (e : Event) (h : StoreRun s) : StoreRun (s.takeEvent n e) :=
  h.of_eq (by simp) (by simp) (by simp)

theorem StoreRun.takePickupHunt (s : State) (h : StoreRun s) : StoreRun s.takePickupHunt := by
  unfold State.takePickupHunt
  split
  · have store : s.pickupHuntEntry.store = s.store.huntFlush := by simp [State.pickupHuntEntry]
    refine ⟨by rw [store]; exact Store.Sound.huntFlush s.store, ?_, ?_⟩
    · simpa [State.pickupHuntEntry] using h.latest
    · rw [store]; exact Store.run_of_runLength_eq_zero (Store.huntFlush_runLength s.store) _
  · exact h

theorem StoreRun.takePickupSync (s : State) (h : StoreRun s) : StoreRun s.takePickupSync := by
  unfold State.takePickupSync
  split
  · exact h.of_eq (by simp [State.pickupSyncEntry]) (by simp [State.pickupSyncEntry]) (by simp [State.pickupSyncEntry])
  · exact h

theorem StoreRun.settlePickup (s : State) (h : StoreRun s) : StoreRun s.settlePickup := by
  unfold State.settlePickup
  split
  · exact h.takePickupHunt
  · exact h.takePickupSync

theorem StoreRun.resume {s : State} (h : StoreRun s) (before : List FrameAct) (waits : Six Bool) : StoreRun (s.resume before waits) := by
  unfold State.resume
  split
  · next w left _ => exact State.runFrame_storeRun w _ s (h.work left)
  · exact h

/-- What waited for the judgement of a frame time is offered to the store, so no record waits behind it. -/
theorem StoreRun.finishLeft {s : State} (h : StoreRun s) (waitsOn : Bool) :
    StoreRun (s.finishLeft waitsOn) ∧ (s.finishLeft waitsOn).CaughtUp := by
  have stored := h.runLeft [.store]
  have caught := s.runLeft_caughtUp [.store] (.inr (by simp))
  unfold State.finishLeft
  split
  · exact ⟨stored, caught⟩
  · exact State.settleAll_keeps (P := fun t => StoreRun t ∧ t.CaughtUp)
      (fun t n e ht => ⟨StoreRun.takeEvent t n e ht.1, by simpa [State.CaughtUp] using ht.2⟩) _
      ⟨stored.runLeft _, State.runLeft_caughtUp _ _ (.inl caught)⟩

/-- An accepted frame opens its own run one index further (R1, R158). -/
theorem StoreRun.acceptFrame {s : State} (h : StoreRun s) (caught : s.CaughtUp) (bits : FrameBits) (order : FrameOrder) :
    StoreRun (s.acceptFrame bits order) := by
  have run := h.run
  rw [caught.lastOffered] at run
  refine State.runFrame_storeRun _ _ _ ?_
  have shape : ∀ t : State, t.store = s.store → t.index = s.index + 1 →
      (t.pickupSideByte (pickupTag bits) (pickupSide bits)).sendReturnFrame.store = s.store ∧
        (t.pickupSideByte (pickupTag bits) (pickupSide bits)).sendReturnFrame.index = s.index + 1 := by
    intro t store index
    obtain ⟨_, _, e | ⟨_, _, -, e⟩⟩ := (t.pickupSideByte (pickupTag bits) (pickupSide bits)).sendReturnFrame_cases <;> rw [e] <;>
      rcases t.pickupSideByte_cases (pickupTag bits) (pickupSide bits) with ⟨_, -, e⟩ | ⟨_, -, e⟩ <;> rw [e] <;> exact ⟨store, index⟩
  obtain ⟨store, index⟩ := shape { s with index := s.index + 1 } rfl rfl
  refine ⟨by rw [store]; exact h.sound, index.symm, ?_⟩
  rw [store, index]
  simpa [Work.start, BitVec.add_sub_cancel] using run

theorem StoreRun.pickupFrame (s : State) (frame : Option FrameBits) (order : FrameOrder) (h : StoreRun s) :
    StoreRun (s.pickupFrame frame order) := by
  have ready := StoreRun.settlePickup _ (State.settleBut_keeps StoreRun.takeEvent order.entryFirst _ (h.resume order.before order.entryFirst))
  unfold State.pickupFrame
  dsimp only
  generalize ((s.resume order.before order.entryFirst).settleBut order.entryFirst).settlePickup = t at ready
  have blanked : StoreRun { t with drawn := t.drawn + (if frame.isNone then 1 else 0), pickupOut := none } := ready.of_eq rfl rfl rfl
  generalize ({ t with drawn := t.drawn + (if frame.isNone then 1 else 0), pickupOut := none } : State) = v at blanked
  have judged : StoreRun (v.judgePickup (frameGood frame) order.hold).1 := by
    have run : StoreRun { v with pickup := { v.pickup with receiver := (v.pickup.receiver.judge (frameGood frame)).1 } } :=
      blanked.of_eq rfl rfl rfl
    unfold State.judgePickup
    dsimp only
    split
    · exact run
    · exact StoreRun.settlePickup _ run
  obtain ⟨finished, caught⟩ := judged.finishLeft (order.hold && !(v.judgePickup (frameGood frame) order.hold).2)
  split
  · exact finished.acceptFrame caught _ _
  · exact finished

/-! ### Every step -/

/-- The invariant beside the fill's (O6). -/
def ClockedRun (s : State) : Prop := StoreClocked s ∧ StoreRun s

theorem clockedRun_iff (s : State) : ClockedRun s ↔ StoreClocked s ∧ StoreConsecutive s :=
  ⟨fun h => ⟨h.1, h.2.latest, h.2.run⟩, fun h => ⟨h.1, h.1.1, h.2.1, h.2.2⟩⟩

theorem ClockedRun.of_eq {s t : State} (h : ClockedRun s) (store : t.store = s.store) (clock : t.synth.clock = s.synth.clock)
    (index : t.index = s.index) (place : t.inProcess = s.inProcess) : ClockedRun t :=
  ⟨h.1.of_eq store clock, h.2.of_eq store index place⟩

/-- A store flushed to HALTED or PREFILL has no run to keep (R149). -/
theorem StoreRun.flushed {s : State} (h : StoreRun s) {t : State} (state : StoreState) (flowing : state ≠ .flowing)
    (store : t.store = s.store.flush state) (index : t.index = s.index) (place : t.inProcess = s.inProcess) : StoreRun t := by
  refine ⟨by rw [store]; exact Store.Sound.flush state flowing s.store, fun w e => ?_, ?_⟩
  · rw [index]; exact h.latest w (place ▸ e)
  · rw [store]; exact Store.run_of_runLength_eq_zero (by cases state <;> first | rfl | exact absurd rfl flowing) _

theorem ClockedRun.complete (s : State) (h : ClockedRun s) : ClockedRun s.complete := by
  obtain ⟨_, _, e⟩ := s.complete_shape
  rw [e]
  exact h.of_eq rfl rfl rfl rfl

theorem ClockedRun.pickupFrame (s : State) (frame : Option FrameBits) (order : FrameOrder) (h : ClockedRun s) :
    ClockedRun (s.pickupFrame frame order) :=
  ⟨storeClocked_frameKept.pickupFrame frame order s h.1, StoreRun.pickupFrame s frame order h.2⟩

theorem ClockedRun.takeEvent (s : State) (n : StringNo) (e : Event) (h : ClockedRun s) : ClockedRun (s.takeEvent n e) :=
  h.of_eq (by simp) (by simp) (by simp) (by simp)

theorem ClockedRun.readStore (s : State) (h : ClockedRun s) : ClockedRun s.readStore.1 := by
  refine ⟨StoreClocked.readStore s h.1, ?_⟩
  have read : StoreRun { s with store := s.store.readOut.store } := ⟨h.1.1.readOut, h.2.latest, h.2.run.readOut⟩
  rcases s.readStore_cases with ⟨-, e⟩ | ⟨_, -, e⟩ <;> rw [e]
  · exact read
  · exact read.of_eq (by simp) (by simp) (by simp)

theorem clockedRun_kept : StepKept ClockedRun where
  powerOn s h := ⟨storeClocked_kept.powerOn s h.1,
    ⟨(storeClocked_kept.powerOn s h.1).1, fun _ e => (by cases e), Store.run_of_runLength_eq_zero rfl _⟩⟩
  pickupFrame s frame order h := h.pickupFrame s frame order
  event := ClockedRun.takeEvent
  huntEntry s h := ⟨StoreClocked.takePickupHunt s h.1, StoreRun.takePickupHunt s h.2⟩
  syncEntry s h := ⟨StoreClocked.takePickupSync s h.1, StoreRun.takePickupSync s h.2⟩
  link _ _ _ h := h.of_eq rfl rfl rfl rfl
  relayedUp _ _ _ h := h.of_eq rfl rfl rfl rfl
  relayedDown _ _ _ h := h.of_eq rfl rfl rfl rfl
  complete := ClockedRun.complete
  sideByte s h := State.sideByte_keeps (fun _ _ h => h.of_eq rfl rfl rfl rfl)
    (State.pick_keeps (fun _ _ h => h.of_eq rfl rfl rfl rfl) (fun _ _ _ h => h.of_eq rfl rfl rfl rfl)
      (fun _ _ _ _ h => h.of_eq rfl rfl rfl rfl) (fun _ _ _ _ h => h.of_eq rfl rfl rfl rfl) fun _ _ _ _ h => h.of_eq rfl rfl rfl rfl) s h
  readStore := ClockedRun.readStore
  sent _ _ h := h.of_eq rfl rfl rfl rfl
  synthReceiver _ _ h := h.of_eq rfl rfl rfl rfl
  synthSide _ _ _ h := h.of_eq rfl rfl rfl rfl
  clockLost s h := by
    refine ⟨StoreClocked.clockLost s h.1, ?_⟩
    rcases s.clockLost_cases with ⟨-, e⟩ | ⟨-, _, _, e⟩ <;> rw [e]
    · exact h.2
    · exact h.2.flushed .halted (by decide) rfl rfl rfl
  clockReturn s h := by
    refine ⟨StoreClocked.clockReturn s h.1, ?_⟩
    unfold State.clockReturn
    split
    · exact h.2
    · exact h.2.flushed .prefill (by decide) (by simp) (by simp) (by simp)
  device _ _ h := h.of_eq rfl rfl rfl rfl
  row _ _ _ h := h.of_eq rfl rfl rfl rfl
  zone _ _ _ _ h := h.of_eq rfl rfl rfl rfl
  curve _ _ _ h := h.of_eq rfl rfl rfl rfl
  written _ _ _ _ h := h.of_eq rfl rfl rfl rfl
  recovered s n _ h := h.of_eq (by simp) (by simp) (by simp) (by simp)
  damped _ _ h := h.of_eq rfl rfl rfl rfl
  cleared _ _ h := h.of_eq rfl rfl rfl rfl
  answered _ _ _ _ _ h := h.of_eq rfl rfl rfl rfl
  reset s full tag order _ h := State.resetPart_keeps (fun s f o h => h.pickupFrame s f o) ClockedRun.takeEvent
    (fun _ _ h => h.of_eq rfl rfl rfl rfl) ClockedRun.complete (fun _ _ _ h => h.of_eq rfl rfl rfl rfl) (fun _ h => h.of_eq rfl rfl rfl rfl)
    (fun _ h => h.of_eq rfl rfl rfl rfl) (fun _ _ _ _ _ h => h.of_eq rfl rfl rfl rfl) s full tag order h

/-- Settles O7: a write adds the next index at the newest end, a read or a slip moves the other end alone, and a flush leaves
nothing to read. -/
theorem storeRunKept : Obligations.StoreRunKept := fun s t clocked consecutive stepped =>
  ((clockedRun_iff t).mp (clockedRun_kept.step (fun _ _ h => h.of_eq rfl rfl rfl rfl) ((clockedRun_iff s).mpr ⟨clocked, consecutive⟩) stepped)).2

end Sys2Proof.Machine
end

section
/-! The tracker's intervals, sums and periods are in range (R37, R48, R58). -/

namespace Sys2Proof.Machine

/-! ### Histories and sums -/

/-- Every interval of a history is valid (R45). -/
def ValidHistory (history : List Nat) : Prop := ∀ i ∈ history, 256 ≤ i ∧ i ≤ 65535

theorem ValidHistory.drop {history : List Nat} (h : ValidHistory history) (k : Nat) : ValidHistory (history.drop k) :=
  fun i hi => h i (List.mem_of_mem_drop hi)

theorem ValidHistory.nil : ValidHistory [] := fun _ h => by cases h

theorem ValidHistory.newestAlone {history : List Nat} (h : ValidHistory history) : ValidHistory (newestAlone history) := h.drop _

theorem ValidHistory.append {history : List Nat} (h : ValidHistory history) {interval : Nat} (valid : 256 ≤ interval ∧ interval ≤ 65535) :
    ValidHistory (appendInterval interval history) := by
  intro i hi
  rcases List.mem_append.mp (List.mem_of_mem_drop hi) with old | new
  · exact h i old
  · rw [List.mem_singleton.mp new]; exact valid

theorem length_appendInterval (interval : Nat) (history : List Nat) :
    (appendInterval interval history).length = min 8 (history.length + 1) := by
  simp only [appendInterval, List.length_drop, List.length_append, List.length_singleton]; omega

/-- The sum of valid intervals lies between the sums of the range's ends. -/
theorem ValidHistory.sum {history : List Nat} (h : ValidHistory history) :
    256 * history.length ≤ history.sum ∧ history.sum ≤ 65535 * history.length := by
  induction history with
  | nil => simp
  | cons i rest ih =>
    have head := h i (by simp)
    have tail := ih fun j hj => h j (by simp [hj])
    simp only [List.length_cons, List.sum_cons]
    omega

theorem ValidHistory.newestSum {history : List Nat} (h : ValidHistory history) {k : Nat} (enough : k ≤ history.length) :
    256 * k ≤ newestSum k history ∧ newestSum k history ≤ 65535 * k := by
  have bounds := (h.drop (history.length - k)).sum
  rw [List.length_drop, Nat.sub_sub_self enough] at bounds
  exact bounds

theorem CandidateNo.num_mem (k : CandidateNo) : 1 ≤ k.num ∧ k.num ≤ 4 := by cases k <;> decide

/-- A measurement is a period in range (R58, R59). -/
theorem ValidHistory.measured {history : List Nat} (h : ValidHistory history) {k : CandidateNo} (enough : k.num ≤ history.length) :
    periodInRange (Machine.newestSum k.num history * 256) := by
  have sum := h.newestSum enough
  have num := k.num_mem
  constructor <;> omega

/-! ### Candidates -/

theorem Candidate.sound_of_passes {c : Candidate} (h : c.passes = 0) (k : Nat) (history : List Nat) : c.Sound k history :=
  fun _ passed => by omega

theorem Candidates.revived_sound (history : List Nat) : Candidates.revived.Sound history :=
  ⟨Candidate.sound_of_passes rfl _ _, Candidate.sound_of_passes rfl _ _, Candidate.sound_of_passes rfl _ _,
    Candidate.sound_of_passes rfl _ _⟩

/-- A longer history holds a candidate's windows too. -/
theorem Candidate.Sound.grown {k : Nat} {history longer : List Nat} {c : Candidate} (h : c.Sound k history)
    (grown : 2 * k ≤ history.length → 2 * k ≤ longer.length) : c.Sound k longer := fun alive passed =>
  have ⟨windows, sum⟩ := h alive passed
  ⟨grown windows, sum⟩

theorem Candidate.Sound.test {k : Nat} {history : List Nat} {c : Candidate} (h : c.Sound k history) (valid : ValidHistory history)
    (tol : Nat) : (testCandidate tol history k c).Sound k history := by
  unfold testCandidate
  split
  · next tested =>
    split
    · exact fun _ _ => ⟨tested.2, _, rfl, valid.newestSum (by omega)⟩
    · exact fun alive => by cases alive
  · exact h

theorem Candidates.Sound.tested {history : List Nat} {c : Candidates} {interval : Nat} (h : c.Sound history)
    (valid : ValidHistory (appendInterval interval history)) (tol : Nat) :
    (testCandidates tol (appendInterval interval history) c).Sound (appendInterval interval history) := by
  have grown : ∀ k ≤ 4, 2 * k ≤ history.length → 2 * k ≤ (appendInterval interval history).length := fun k _ _ => by
    rw [length_appendInterval]; omega
  obtain ⟨one, two, three, four⟩ := h
  exact ⟨(one.grown (grown 1 (by omega))).test valid tol, (two.grown (grown 2 (by omega))).test valid tol,
    (three.grown (grown 3 (by omega))).test valid tol, (four.grown (grown 4 (by omega))).test valid tol⟩

theorem Candidates.Sound.get {history : List Nat} {c : Candidates} (h : c.Sound history) (k : CandidateNo) :
    (c.get k).Sound k.num history := by
  obtain ⟨one, two, three, four⟩ := h
  cases k <;> assumption

/-- The smallest candidate of a kind is of that kind. -/
theorem Candidates.smallest_spec {p : Candidate → Bool} {c : Candidates} {k : CandidateNo} (h : c.smallest p = some k) :
    p (c.get k) = true := by
  unfold Candidates.smallest at h
  split at h
  · cases h; assumption
  · split at h
    · cases h; assumption
    · split at h
      · cases h; assumption
      · split at h
        · cases h; assumption
        · cases h

/-! ### What a tracker hands on -/

/-- A tracker in range, with an outcome that locks on a period in range only (R51). -/
def InRangeOutcome (x : Tracker × TrackOutcome) : Prop := x.1.Sound ∧ ∀ k period, x.2 = .lockDue k period → periodInRange period

theorem InRangeOutcome.of_sound {t : Tracker} (h : t.Sound) {o : TrackOutcome} (unlocked : ∀ k period, o ≠ .lockDue k period) :
    InRangeOutcome (t, o) := ⟨h, fun k period e => absurd e (unlocked k period)⟩

section
variable {t : Tracker} (h : t.Sound)
include h

/-- Only the fields of R58, the history and the candidates count. -/
theorem Tracker.Sound.of_eq {v : Tracker} (history : v.history = t.history) (lock : v.lock = t.lock) (k : v.k = t.k)
    (period : v.period = t.period) (jump : v.jump = t.jump) (misses : v.misses = t.misses) (candidates : v.candidates = t.candidates) :
    v.Sound := by
  unfold Tracker.Sound
  rw [history, lock, k, period, jump, misses, candidates]
  exact h

/-- In LOCKED the candidates do not count. -/
theorem Tracker.Sound.inLocked {v : Tracker} (locked : t.lock = .locked) (lock : v.lock = .locked) (k : v.k = t.k)
    (history : ValidHistory v.history) (present : v.period.isSome = t.period.isSome)
    (periods : ∀ p, v.period = some p → periodInRange p) (jumps : ∀ j, v.jump = some j → periodInRange j) : v.Sound := by
  obtain ⟨-, lock_iff, period_iff, -⟩ := h
  refine ⟨history, ?_, ?_, periods, fun j e => ⟨jumps j e, lock⟩, fun search => ?_⟩
  · rw [lock, k, ← lock_iff, locked]
  · rw [k, present, period_iff]
  · rw [lock] at search; cases search

/-- In SEARCH a new history and new candidates are sound together. -/
theorem Tracker.Sound.inSearch {v : Tracker} (search : t.lock = .search) (lock : v.lock = t.lock) (k : v.k = t.k)
    (period : v.period = t.period) (jump : v.jump = t.jump) (misses : v.misses = t.misses) (history : ValidHistory v.history)
    (candidates : v.candidates.Sound v.history) : v.Sound := by
  obtain ⟨-, lock_iff, period_iff, periods, jumps, quiet⟩ := h
  refine ⟨history, ?_, ?_, ?_, ?_, fun _ => ⟨?_, candidates⟩⟩
  · rw [lock, k]; exact lock_iff
  · rw [k, period]; exact period_iff
  · rw [period]; exact periods
  · rw [jump, lock]; exact jumps
  · rw [misses]; exact (quiet search).1

theorem Tracker.Sound.validHistory : ValidHistory t.history := h.1

/-- The sample count does not count. -/
theorem Tracker.Sound.withTaken (samples turns : Nat) : Tracker.Sound { t with samples := samples, turns := turns } :=
  h.of_eq rfl rfl rfl rfl rfl rfl rfl

theorem Tracker.Sound.filterSample (r : StringRecord) (y : Int) : (filterSample r y t).Sound := by
  have counted : (t.setTaken (t.taken + 1)).Sound := h.withTaken _ _
  unfold Machine.filterSample
  dsimp only
  generalize t.setTaken (t.taken + 1) = v at counted
  split <;> exact counted.of_eq rfl rfl rfl rfl rfl rfl rfl

theorem Tracker.Sound.detect (level : Nat) : (detect level t).1.Sound := by
  unfold Machine.detect
  split <;> split
  · exact h.of_eq rfl rfl rfl rfl rfl rfl rfl
  · exact h
  · exact h.of_eq rfl rfl rfl rfl rfl rfl rfl
  · exact h

theorem Tracker.Sound.restartSearch (search : t.lock = .search) {history : List Nat} (valid : ValidHistory history) :
    (restartSearch history t).Sound :=
  h.inSearch search rfl rfl rfl rfl rfl valid (Candidates.revived_sound _)

theorem Tracker.Sound.missed (locked : t.lock = .locked) {jump : Option Nat} (jumps : ∀ j, jump = some j → periodInRange j) :
    InRangeOutcome (missed jump t) := by
  obtain ⟨valid, -, -, periods, -⟩ := id h
  unfold Machine.missed
  refine .of_sound (h.inLocked (v := { t with jump := jump, misses := min 3 (t.misses + 1) }) locked locked rfl valid rfl periods jumps) fun k period => ?_
  split <;> simp

theorem Tracker.Sound.outOfRange : InRangeOutcome (outOfRange t) := by
  unfold Machine.outOfRange
  split
  · next search => exact .of_sound (h.restartSearch search .nil) (by simp)
  · next locked =>
    obtain ⟨-, -, -, periods, jumps, -⟩ := id h
    exact Tracker.Sound.missed (h.inLocked (v := { t with history := [] }) locked locked rfl .nil rfl periods fun j e => (jumps j e).1) locked (by simp)

omit h in
/-- A rounded quotient lies between 0 and its dividend. -/
theorem roundAway_toward (d : Int) {b : Nat} (pos : 1 ≤ b) : min 0 d ≤ roundAway d b ∧ roundAway d b ≤ max 0 d := by
  have magnitude : ∀ a : Int, 0 ≤ a → 0 ≤ (2 * a + b) / (2 * (b : Int)) ∧ (2 * a + b) / (2 * (b : Int)) ≤ a := fun a ha => by
    refine ⟨Int.ediv_nonneg (by omega) (by omega), ?_⟩
    have : (2 * a + b) / (2 * (b : Int)) < a + 1 := by
      rw [Int.ediv_lt_iff_lt_mul (by omega)]; nlinarith [mul_le_mul_of_nonneg_left (show (1 : Int) ≤ b by omega) ha]
    omega
  rw [roundAway]
  split
  · next up => have := magnitude d up; omega
  · next down => have := magnitude (-d) (by omega); omega

omit h in
/-- The loop filter does not pass the measurement (R61). -/
theorem loopStep_between (kf period measured : Nat) :
    min period measured ≤ loopStep kf period measured ∧ loopStep kf period measured ≤ max period measured := by
  have step := roundAway_toward ((measured : Int) - period) (b := 2 ^ kf) Nat.one_le_two_pow
  unfold loopStep
  omega

omit h in
theorem loopStep_mem (kf : Nat) {period measured : Nat} (hp : periodInRange period) (hm : periodInRange measured) :
    periodInRange (loopStep kf period measured) := by
  have between := loopStep_between kf period measured
  unfold periodInRange at *
  omega

theorem Tracker.Sound.measure (locked : t.lock = .locked) (r : StringRecord) {period measured : Nat} (hp : t.period = some period)
    (hm : periodInRange measured) : InRangeOutcome (measure r period measured t) := by
  obtain ⟨valid, -, -, periods, -⟩ := id h
  have set : ∀ p, periodInRange p → Tracker.Sound { t with period := some p, misses := 0, jump := none } := fun p range =>
    h.inLocked locked locked rfl valid (by rw [hp]; rfl) (fun _ e => by cases e; exact range) (by simp)
  unfold Machine.measure
  split
  · exact .of_sound (set _ (loopStep_mem r.loopShift (periods period hp) hm)) (by simp)
  · split
    · split
      · exact .of_sound (set _ hm) (by simp)
      · exact h.missed locked fun j e => by cases e; exact hm
    · exact h.missed locked fun j e => by cases e; exact hm

theorem Tracker.Sound.lockedCrossing (locked : t.lock = .locked) (r : StringRecord) : InRangeOutcome (lockedCrossing r t) := by
  unfold Machine.lockedCrossing
  split
  · next k period _ hp =>
    split
    · next enough => exact h.measure locked r hp (h.validHistory.measured enough)
    · exact .of_sound h (by simp)
  · exact .of_sound h (by simp)

omit h in
/-- The work of SEARCH once the tested candidates are sound: a lock is decided by a candidate that has passed (R51). -/
theorem searchCrossing_inRange {r : StringRecord} (confirm : 1 ≤ r.confirm) {v : Tracker}
    (set : ∀ history candidates decided, ValidHistory history → candidates.Sound history →
      Tracker.Sound { v with history := history, candidates := candidates, decided := decided })
    (valid : ValidHistory v.history) (tested : (testCandidates r.tolerance v.history v.candidates).Sound v.history) :
    InRangeOutcome (searchCrossing r v) := by
  unfold searchCrossing
  generalize testCandidates r.tolerance v.history v.candidates = c at tested
  dsimp only
  split
  · exact .of_sound (set _ _ _ valid.newestAlone (Candidates.revived_sound _)) (by simp)
  · next k smallest =>
    split
    · next confirmed =>
      refine ⟨set _ _ _ valid tested, fun k' period e => ?_⟩
      cases e
      obtain ⟨windows, -⟩ := tested.get k (Candidates.smallest_spec smallest) (by omega)
      exact valid.measured (by omega)
    · split <;> exact .of_sound (set _ _ _ valid tested) (by simp)

theorem Tracker.Sound.countCrossing {r : StringRecord} (confirm : 1 ≤ r.confirm) (point : Instant) :
    InRangeOutcome (countCrossing r point t) := by
  unfold Machine.countCrossing
  split
  · exact .of_sound (h.of_eq rfl rfl rfl rfl rfl rfl rfl) (by simp)
  · dsimp only
    split
    · next valid =>
      have appended := h.validHistory.append valid
      split
      · next search =>
        obtain ⟨-, candidates⟩ := h.2.2.2.2.2 search
        exact searchCrossing_inRange confirm (fun _ _ _ hv hc => h.inSearch search rfl rfl rfl rfl rfl hv hc) appended
          (candidates.tested appended r.tolerance)
      · next locked =>
        obtain ⟨-, -, -, periods, jumps, -⟩ := id h
        refine Tracker.Sound.lockedCrossing (t := { t with ref := some point, stale := 4096, history := _ }) ?_ locked r
        exact h.inLocked locked locked rfl appended rfl periods fun j e => (jumps j e).1
    · exact Tracker.Sound.outOfRange (h.of_eq rfl rfl rfl rfl rfl rfl rfl)

theorem Tracker.Sound.trackSample {r : StringRecord} (confirm : 1 ≤ r.confirm) (level : Nat) (y : Int) :
    InRangeOutcome (trackSample r level y t) := by
  have detected := (h.filterSample r y).detect (hysteresis r.hysteresisShift level)
  unfold Machine.trackSample
  dsimp only
  split
  · exact detected.countCrossing confirm _
  · unfold countStale
    split
    · exact .of_sound detected (by simp)
    · refine .of_sound (detected.of_eq rfl rfl rfl rfl rfl rfl rfl) fun k period => ?_
      split <;> simp

theorem Tracker.Sound.takeLock (k : CandidateNo) {period : Nat} (hp : periodInRange period) : (t.takeLock k period).Sound := by
  unfold Tracker.takeLock
  split
  · exact ⟨h.validHistory, by simp, by simp, fun p e => (by cases e; exact hp), by simp, by simp⟩
  · exact h

theorem Tracker.Sound.takeLockLoss : t.takeLockLoss.Sound := by
  unfold Tracker.takeLockLoss
  split
  · exact ⟨h.validHistory.newestAlone, by simp, by simp, by simp, by simp, fun _ => ⟨rfl, Candidates.revived_sound _⟩⟩
  · exact h

theorem Tracker.Sound.takeStale : InRangeOutcome t.takeStale := by
  unfold Tracker.takeStale
  split
  · exact Tracker.Sound.outOfRange (h.of_eq rfl rfl rfl rfl rfl rfl rfl)
  · exact .of_sound h (by simp)

end

theorem Tracker.fresh_sound (run : RunState) : (Tracker.fresh run).Sound :=
  ⟨ValidHistory.nil, by simp [fresh], by simp [fresh], by simp [fresh], by simp [fresh], fun _ => ⟨rfl, Candidates.revived_sound _⟩⟩

end Sys2Proof.Machine
end

section
/-! What the note engine's work leaves alone: the tracker, the envelope, the fault monitor, the open group. -/

namespace Sys2Proof.Machine

/-- `v` is `u` after work of its note engine, queue and slots: the other blocks stand, and the string strikes at most (R90). -/
structure NoteWork (u v : StringUnit) : Prop where
  state : v.state = u.state ∨ u.state = .attack ∧ v.state = .sounding
  env : v.env = u.env
  damp : v.damp = u.damp
  tracker : v.tracker = u.tracker
  monitor : v.monitor = u.monitor
  refusing : v.refusing = u.refusing
  group : v.group = u.group
  lock : v.due.lock = u.due.lock
  saturated : u.counters.Saturated → v.counters.Saturated
  room : u.queue.length ≤ 8 → v.queue.length ≤ 8

/-- A merge keeps the length of the queue (R109). -/
theorem length_mergeQueue {note : Nat} {correction : Bool} {queue merged : List NoteRecord}
    (e : mergeQueue note correction queue = some merged) : merged.length = queue.length := by
  rcases List.eq_nil_or_concat queue with rfl | ⟨front, tail, rfl⟩
  · cases e
  · rw [List.concat_eq_append, mergeQueue_append_singleton, Option.map_eq_some_iff] at e
    obtain ⟨t, -, rfl⟩ := e
    simp

theorem StringCounters.Saturated.lostBumped {c : StringCounters} (h : c.Saturated) : ({ c with lost := bump c.lost } : StringCounters).Saturated := by
  obtain ⟨ghosts, unzoned, -, rest⟩ := h
  exact ⟨ghosts, unzoned, bump_le _, rest⟩

theorem StringCounters.Saturated.mergedBumped {c : StringCounters} (h : c.Saturated) :
    ({ c with merged := bump c.merged } : StringCounters).Saturated := by
  obtain ⟨ghosts, unzoned, lost, -, rest⟩ := h
  exact ⟨ghosts, unzoned, lost, bump_le _, rest⟩

theorem StringCounters.Saturated.unzonedBumped {c : StringCounters} (h : c.Saturated) :
    ({ c with unzoned := bump c.unzoned } : StringCounters).Saturated := by
  obtain ⟨ghosts, -, rest⟩ := h
  exact ⟨ghosts, bump_le _, rest⟩

namespace NoteWork

theorem refl (u : StringUnit) : NoteWork u u := ⟨.inl rfl, rfl, rfl, rfl, rfl, rfl, rfl, rfl, id, id⟩

theorem trans {u v w : StringUnit} (a : NoteWork u v) (b : NoteWork v w) : NoteWork u w where
  state := by
    rcases a.state with e | ⟨e, f⟩ <;> rcases b.state with g | ⟨g, k⟩
    · exact .inl (g.trans e)
    · exact .inr ⟨e ▸ g, k⟩
    · exact .inr ⟨e, g.trans f⟩
    · rw [f] at g; cases g
  env := b.env.trans a.env
  damp := b.damp.trans a.damp
  tracker := b.tracker.trans a.tracker
  monitor := b.monitor.trans a.monitor
  refusing := b.refusing.trans a.refusing
  group := b.group.trans a.group
  lock := b.lock.trans a.lock
  saturated := b.saturated ∘ a.saturated
  room := b.room ∘ a.room

/-- A write of the note engine's own items, or of the due steps but the lock. -/
theorem items (u : StringUnit) (context : Context) (pitch : Pitch) (queue : List NoteRecord) (glide : Option Glide)
    (press : Option Press) (due : Due) (lock : due.lock = u.due.lock) (room : u.queue.length ≤ 8 → queue.length ≤ 8) :
    NoteWork u { u with context := context, pitch := pitch, queue := queue, glide := glide, press := press, due := due } :=
  ⟨.inl rfl, rfl, rfl, rfl, rfl, rfl, rfl, lock, id, room⟩

theorem context (u : StringUnit) (c : Context) : NoteWork u { u with context := c } := items u c _ _ _ _ _ rfl id

theorem pitch (u : StringUnit) (p : Pitch) : NoteWork u { u with pitch := p } := items u _ p _ _ _ _ rfl id

theorem clearContext (u : StringUnit) : NoteWork u u.clearContext := items u _ _ _ _ _ _ rfl id

theorem flush (u : StringUnit) : NoteWork u u.flush := items u _ _ _ _ _ _ rfl fun _ => by simp

theorem placeLift (u : StringUnit) (stamp : Index) (cause : LiftCause) : NoteWork u (u.placeLift stamp cause) :=
  items u _ _ _ _ _ _ rfl fun _ => by simp

theorem releaseDue (u : StringUnit) (stamp : Index) : NoteWork u (u.releaseDue stamp) := items u _ _ _ _ _ _ rfl id

theorem offerStrike (mode : OutputMode) (record : NoteRecord) (u : StringUnit) : NoteWork u (offerStrike mode record u).1 := by
  rcases offerStrike_cases mode record u with ⟨-, e⟩ | ⟨-, short, e⟩ | ⟨-, -, e⟩ <;> rw [e]
  · exact refl u
  · exact items u _ _ _ _ _ _ rfl fun _ => by simp; omega
  · exact ⟨.inl rfl, rfl, rfl, rfl, rfl, rfl, rfl, rfl, StringCounters.Saturated.lostBumped, id⟩

theorem offerShift (mode : OutputMode) (channel note : Nat) (stamp : Index) (correction : Bool) (u : StringUnit) :
    NoteWork u (offerShift mode channel note stamp correction u) := by
  rcases offerShift_cases mode channel note stamp correction u with ⟨-, e⟩ | ⟨-, short, e⟩ | ⟨-, -, _, merged, e⟩ | ⟨-, -, -, e⟩ <;>
    rw [e]
  · exact refl u
  · exact items u _ _ _ _ _ _ rfl fun _ => by simp; omega
  · exact ⟨.inl rfl, rfl, rfl, rfl, rfl, rfl, rfl, rfl, StringCounters.Saturated.mergedBumped, (length_mergeQueue merged).trans_le⟩
  · exact ⟨.inl rfl, rfl, rfl, rfl, rfl, rfl, rfl, rfl, StringCounters.Saturated.lostBumped, id⟩

theorem offerLift (mode : OutputMode) (stamp : Index) (cause : LiftCause) (u : StringUnit) : NoteWork u (offerLift mode stamp cause u) := by
  rcases offerLift_cases mode stamp cause u with ⟨-, e⟩ | ⟨-, short, e⟩ <;> rw [e]
  · exact refl u
  · exact items u _ _ _ _ _ _ rfl fun _ => by simp; omega

theorem offerGlide (mode : OutputMode) (g : Glide) (u : StringUnit) : NoteWork u (offerGlide mode g u) := by
  unfold Machine.offerGlide
  split
  · exact refl u
  · exact items u _ _ _ _ _ _ rfl id

theorem offerPress (mode : OutputMode) (p : Press) (u : StringUnit) : NoteWork u (offerPress mode p u) := by
  unfold Machine.offerPress
  split
  · exact refl u
  · exact items u _ _ _ _ _ _ rfl id

theorem glideDecision (r : StringRecord) (stamp : Index) (u : StringUnit) : NoteWork u (glideDecision r stamp u) := by
  unfold Machine.glideDecision
  split
  · split
    · dsimp only
      split
      · exact (context u _).trans (offerGlide _ _ _)
      · exact refl u
    · exact refl u
  · exact refl u

theorem pressDecision (r : StringRecord) (level : Nat) (stamp : Index) (u : StringUnit) : NoteWork u (pressDecision r level stamp u) := by
  unfold Machine.pressDecision
  split
  · split
    · split
      · exact (context u _).trans (offerPress _ _ _)
      · exact refl u
    · exact refl u
  · exact refl u

theorem soundingUnit (tb : Tables) (period : Nat) (atLock : Bool) {u : StringUnit} (attack : u.state = .attack) :
    NoteWork u (soundingUnit tb period atLock u) :=
  ⟨.inr ⟨attack, rfl⟩, rfl, rfl, rfl, rfl, rfl, rfl, rfl, id, id⟩

theorem strike (tb : Tables) (n : StringNo) (period : Nat) (stamp : Index) (atLock : Bool) (u : StringUnit) :
    NoteWork u (strike tb n period stamp atLock u) := by
  rcases strike_cases tb n period u with left | ⟨attack, unmatched⟩ | ⟨attack, z, found⟩
  · rw [strike_of_not_attack left]; exact refl u
  · rw [strike_of_no_zone attack unmatched]
    exact ⟨.inr ⟨attack, rfl⟩, rfl, rfl, rfl, rfl, rfl, rfl, rfl, StringCounters.Saturated.unzonedBumped, id⟩
  · rw [strike_of_zone attack found]
    have offered := (soundingUnit tb period atLock attack).trans (offerStrike (tb.strings.get n).outputMode
      (strikeRecord tb n z (rawNote (pitchOf tb.device period)) stamp atLock u) _)
    dsimp only
    split
    · exact (offered.trans (context _ _)).trans (glideDecision _ _ _)
    · exact offered.trans (context _ _)

theorem changeNote (r : StringRecord) (raw : Nat) (stamp : Index) (correction : Bool) (note : Struck) (u : StringUnit) :
    NoteWork u (changeNote r raw stamp correction note u) := by
  unfold Machine.changeNote
  split
  · exact context u _
  · dsimp only
    split
    · exact (context u _).trans (offerShift _ _ _ _ _ _)
    · exact context u _

theorem followRaw (r : StringRecord) (raw : Nat) (stamp : Index) (correction : Bool) (note : Struck) (u : StringUnit) :
    NoteWork u (followRaw r raw stamp correction note u) := by
  unfold Machine.followRaw
  refine trans ?_ (glideDecision _ _ _)
  split
  · exact context u _
  · exact changeNote _ _ _ _ _ _

theorem lockReport (tb : Tables) (n : StringNo) (period : Nat) (stamp : Index) (u : StringUnit) :
    NoteWork u (lockReport tb n period stamp u) := by
  unfold Machine.lockReport
  split
  · split
    · exact refl u
    · exact strike _ _ _ _ _ _
    · exact (pitch u _).trans (followRaw _ _ _ _ _ _)
  · exact refl u

theorem jumpReport (tb : Tables) (n : StringNo) (period : Nat) (stamp : Index) (u : StringUnit) :
    NoteWork u (jumpReport tb n period stamp u) := by
  unfold Machine.jumpReport
  split
  · exact refl u
  · exact (pitch u _).trans (followRaw _ _ _ _ _ _)
  · exact refl u

theorem hitReport (tb : Tables) (n : StringNo) (period : Nat) (stamp : Index) (u : StringUnit) :
    NoteWork u (hitReport tb n period stamp u) := by
  unfold Machine.hitReport
  split
  · exact refl u
  · dsimp only
    split
    · exact (pitch u _).trans (followRaw _ _ _ _ _ _)
    · exact (pitch u _).trans (glideDecision _ _ _)
  · exact refl u

theorem searchPassReport (tb : Tables) (n : StringNo) (sum : Nat) (stamp : Index) (u : StringUnit) :
    NoteWork u (searchPassReport tb n sum stamp u) := by
  unfold Machine.searchPassReport
  split
  · exact strike _ _ _ _ _ _
  · exact refl u

theorem takeReport (tb : Tables) (n : StringNo) (u : StringUnit) : NoteWork u (takeReport tb n u) := by
  unfold Machine.takeReport
  split
  · exact refl u
  · next report stamp _ =>
    have taken : NoteWork u { u with due := { u.due with report := none } } := items u _ _ _ _ _ _ rfl id
    cases report with
    | hit period => exact taken.trans (hitReport _ _ _ _ _)
    | jump period => exact taken.trans (jumpReport _ _ _ _ _)
    | searchPass sum => exact taken.trans (searchPassReport _ _ _ _ _)

theorem lossReport (u : StringUnit) : NoteWork u (lossReport u) := by
  unfold Machine.lossReport
  split
  · exact refl u
  · exact refl u
  · exact pitch u _

theorem frameMark (stamp : Index) (u : StringUnit) : NoteWork u (frameMark stamp u) := by
  unfold Machine.frameMark
  split
  · exact items u _ _ _ _ _ _ (by split <;> rfl) id
  · exact context u _
  all_goals exact refl u

theorem endNote (mode : OutputMode) (stamp : Index) (cause : LiftCause) (u : StringUnit) : NoteWork u (endNote mode stamp cause u) := by
  unfold Machine.endNote
  split
  · split
    · exact (offerLift _ _ _ _).trans (clearContext _)
    · exact clearContext _
  all_goals exact clearContext _

theorem endForced (mode : OutputMode) (stamp : Index) (cause : LiftCause) (u : StringUnit) : NoteWork u (endForced mode stamp cause u) := by
  unfold Machine.endForced
  split
  · exact endNote _ _ _ _
  · exact clearContext _
  all_goals exact refl u

theorem expireDeadline (tb : Tables) (n : StringNo) (stamp : Index) (u : StringUnit) : NoteWork u (expireDeadline tb n stamp u) := by
  unfold Machine.expireDeadline
  split
  · split
    · exact strike _ _ _ _ _ _
    · exact context u _
  · exact refl u

theorem changeMode (old new : OutputMode) (inFlight : Bool) (stamp : Index) (u : StringUnit) :
    NoteWork u (changeMode old new inFlight stamp u) := by
  unfold Machine.changeMode mutedEntry
  split
  · dsimp only
    have flushed : NoteWork u { u.flush with context := u.context.unannounce } :=
      items u _ _ _ _ _ _ rfl fun _ => by simp
    split
    · exact flushed.trans (placeLift _ _ _)
    · exact flushed
  · exact refl u

end NoteWork

end Sys2Proof.Machine
end

section
/-! Every step keeps the trackers' numbers in range. -/

namespace Sys2Proof.Machine

/-- A string's tracker is sound, with the report of a lock that is due. -/
def StringUnit.Tracks (u : StringUnit) : Prop := u.tracker.Sound ∧ ∀ report, u.due.lock = some report → periodInRange report.period

section
variable {u v : StringUnit} (h : u.Tracks)
include h

/-- The tracker stands or starts again, and no lock comes due. -/
theorem StringUnit.Tracks.of_shape (tracker : v.tracker = u.tracker ∨ ∃ run, v.tracker = .fresh run)
    (lock : v.due.lock = u.due.lock ∨ v.due.lock = none) : v.Tracks := by
  refine ⟨?_, fun report e => ?_⟩
  · rcases tracker with e | ⟨run, e⟩ <;> rw [e]
    · exact h.1
    · exact Tracker.fresh_sound run
  · rcases lock with f | f <;> rw [f] at e
    · exact h.2 report e
    · cases e

theorem StringUnit.Tracks.noteWork (w : NoteWork u v) : v.Tracks := h.of_shape (.inl w.tracker) (.inl w.lock)

/-- A sound outcome makes sound things due (R53). -/
theorem StringUnit.Tracks.takeOutcome {x : Tracker × TrackOutcome} (hx : InRangeOutcome x) (due : Due) (lock : due.lock = u.due.lock)
    (stamp : Index) : (takeOutcome stamp x.2 { u with tracker := x.1, due := due }).Tracks := by
  obtain ⟨t, o⟩ := x
  have base : ({ u with tracker := t, due := due } : StringUnit).Tracks := ⟨hx.1, by rw [lock]; exact h.2⟩
  cases o with
  | lockDue k period => exact ⟨base.1, fun report e => by cases e; exact hx.2 k period rfl⟩
  | _ => exact base.of_shape (.inl rfl) (.inl rfl)

theorem StringUnit.Tracks.envelopeSample (r : StringRecord) (y : Int) (stamp : Index) : (envelopeSample r y stamp u).Tracks := by
  unfold Machine.envelopeSample
  dsimp only
  split
  · unfold envelopeIdle
    split
    · exact h.of_shape (.inr ⟨_, rfl⟩) (.inl rfl)
    · exact h.of_shape (.inl rfl) (.inl rfl)
  · unfold envelopeAttack
    refine StringUnit.Tracks.noteWork ?_ (NoteWork.frameMark _ _)
    split <;> exact h.of_shape (.inl rfl) (.inl rfl)
  · unfold envelopeSounding
    dsimp only
    split
    · refine StringUnit.Tracks.noteWork ?_ (NoteWork.frameMark _ _)
      exact h.of_shape (.inl rfl) (.inl rfl)
    · split
      · refine StringUnit.Tracks.of_shape (u := u) h (.inr ⟨_, rfl⟩) (.inl ?_)
        exact (NoteWork.endNote _ _ _ _).lock
      · refine StringUnit.Tracks.noteWork ?_ ((NoteWork.frameMark _ _).trans (NoteWork.pressDecision _ _ _ _))
        exact h.of_shape (.inl rfl) (.inl rfl)
  · exact h.of_shape (.inl rfl) (.inl rfl)
  all_goals exact h

theorem StringUnit.Tracks.trackerSample {tb : Tables} (sound : TablesSound tb) (n : StringNo) (y : Int) (stamp : Index) :
    (trackerSample tb n y stamp u).Tracks := by
  obtain ⟨-, strings, -⟩ := sound
  have confirm : 1 ≤ (tb.strings.get n).confirm := by
    obtain ⟨-, -, -, -, -, -, -, -, -, -, -, -, -, -, -, confirm, -⟩ := strings n; exact confirm
  unfold Machine.trackerSample
  split
  · exact h
  · have tracked := h.1.trackSample confirm u.env.level y
    generalize trackSample (tb.strings.get n) u.env.level y u.tracker = x at tracked
    exact h.takeOutcome tracked u.due rfl stamp

theorem StringUnit.Tracks.monitorSample (r : StringRecord) (x : Int) (flag : Bool) (stamp : Index) :
    (monitorSample r x flag stamp u).Tracks := by
  unfold Machine.monitorSample countWait judgeTest
  split
  all_goals first
    | exact h.of_shape (.inl rfl) (.inl rfl)
    | (dsimp only; split <;> exact h.of_shape (.inl rfl) (.inl rfl))

theorem StringUnit.Tracks.takeLock (tb : Tables) (n : StringNo) : (takeLock tb n u).Tracks := by
  unfold Machine.takeLock
  split
  · exact h
  · next report due =>
    refine StringUnit.Tracks.noteWork ?_ (NoteWork.lockReport _ _ _ _ _)
    exact ⟨h.1.takeLock _ (h.2 report due), fun _ e => by cases e⟩

theorem StringUnit.Tracks.enterFault (r : StringRecord) (cause : Cause) (stamp : Index) : (enterFault r cause stamp u).Tracks :=
  h.of_shape (.inr ⟨_, rfl⟩) (.inl (NoteWork.endForced _ _ _ u).lock)

theorem StringUnit.Tracks.unitEvent (tb : Tables) (n : StringNo) (e : Event) : (unitEvent tb n e u).Tracks := by
  cases e with
  | report => exact h.noteWork (NoteWork.takeReport tb n u)
  | release =>
    simp only [Machine.unitEvent, takeRelease]
    split
    · exact h
    · split
      · exact h.of_shape (.inr ⟨_, rfl⟩) (.inl rfl)
      · exact h.of_shape (.inr ⟨_, rfl⟩) (.inl (NoteWork.endNote _ _ _ _).lock)
      all_goals exact h.of_shape (.inl rfl) (.inl rfl)
  | strikeDeadlineExpiry =>
    simp only [Machine.unitEvent, takeExpiry]
    split
    · exact h
    · refine StringUnit.Tracks.noteWork ?_ (NoteWork.expireDeadline _ _ _ _)
      exact (h.takeLock tb n).of_shape (.inl rfl) (.inl rfl)
  | dampExit =>
    simp only [Machine.unitEvent, takeDampExit]
    split
    · split <;> exact h.of_shape (.inl rfl) (.inl rfl)
    · exact h
  | staleCrossing =>
    simp only [Machine.unitEvent, takeStale]
    split
    · exact h
    · have crossed := h.1.takeStale
      generalize u.tracker.takeStale = x at crossed
      exact h.takeOutcome crossed _ (by rfl) _
  | lockLoss =>
    simp only [Machine.unitEvent, takeLockLoss]
    split
    · exact h
    · refine StringUnit.Tracks.noteWork ?_ (NoteWork.lossReport _)
      exact ⟨h.1.takeLockLoss, h.2⟩
  | lock => exact h.takeLock tb n
  | faultEntry =>
    simp only [Machine.unitEvent, faultEntryUnit]
    split
    · exact h
    · have taken : ({ u with due := { u.due with fault := none } } : StringUnit).Tracks := h.of_shape (.inl rfl) (.inl rfl)
      generalize ({ u with due := { u.due with fault := none } } : StringUnit) = v at taken
      split
      · exact taken.enterFault _ _ _
      · exact taken.enterFault _ _ _
      · exact taken.enterFault _ _ _
      · exact taken.enterFault _ _ _
      all_goals exact taken
  | faultWaitEnd =>
    simp only [Machine.unitEvent, takeWaitEnd]
    split
    · split <;> exact h.of_shape (.inl rfl) (.inl rfl)
    · exact h
  | recovery =>
    simp only [Machine.unitEvent, recoveryUnit]
    split
    · split
      · exact h.of_shape (.inr ⟨_, rfl⟩) (.inl rfl)
      · exact h.of_shape (.inl rfl) (.inl rfl)
    · exact h

theorem StringUnit.Tracks.huntString (r : StringRecord) (stamp : Index) : (huntString r stamp u).Tracks := by
  have ended : ∀ monitor, ({ (Machine.endForced r.outputMode stamp .link u).silenceIn .idle with monitor := monitor } : StringUnit).Tracks :=
    fun _ => h.of_shape (.inr ⟨_, rfl⟩) (.inl (NoteWork.endForced _ _ _ u).lock)
  have cleared : ∀ monitor, ({ u with monitor := monitor } : StringUnit).Tracks := fun _ => h.of_shape (.inl rfl) (.inl rfl)
  unfold Machine.huntString
  split
  all_goals first
    | exact ended _
    | exact cleared _

theorem StringUnit.Tracks.changeEnable (old new : Bool) (mode : OutputMode) (stamp : Index) : (changeEnable old new mode stamp u).Tracks := by
  unfold Machine.changeEnable
  split
  · exact h
  · split
    · split
      · exact h.of_shape (.inr ⟨_, rfl⟩) (.inl rfl)
      · exact h
    · exact h.of_shape (.inr ⟨_, rfl⟩) (.inr rfl)

theorem StringUnit.Tracks.dampString (r : StringRecord) (stamp : Index) : (dampString r stamp u).1.Tracks := by
  unfold Machine.dampString
  split
  · exact h.of_shape (.inr ⟨_, rfl⟩) (.inl (NoteWork.endNote _ _ _ u).lock)
  · exact h.of_shape (.inr ⟨_, rfl⟩) (.inl rfl)
  · exact h.of_shape (.inl rfl) (.inl rfl)
  all_goals exact h

theorem StringUnit.Tracks.completed (item : TxItem) (n : StringNo) : (completeUnit item n u).Tracks := by
  cases item <;> simp only [completeUnit] <;> (try split) <;> exact h.of_shape (.inl rfl) (.inl rfl)

end

/-- The tracker of a string's unit is in range, and the tables sound. -/
def tracksUnit : UnitPred := fun tb _ _ _ u => TablesSound tb ∧ u.Tracks

theorem tracksUnit_frameKept : UnitFrameKept tracksUnit where
  envelope y index h := ⟨h.1, h.2.envelopeSample _ y index⟩
  tracker y index h := ⟨h.1, h.2.trackerSample h.1 _ y index⟩
  monitor x flag index h := ⟨h.1, h.2.monitorSample _ x flag index⟩
  event e h := ⟨h.1, h.2.unitEvent _ _ e⟩
  hunt index h := ⟨h.1, h.2.huntString _ index⟩
  sync h := h
  dropped h := ⟨h.1, h.2.of_shape (.inl rfl) (.inr rfl)⟩

theorem resetQueue_tracker_due (stamp : Index) (u : StringUnit) :
    (resetQueue stamp u).tracker = u.tracker ∧ (resetQueue stamp u).due = u.due := by
  unfold resetQueue
  dsimp only
  split <;> exact ⟨rfl, rfl⟩

theorem tracksUnit_kept : UnitKept tracksUnit fun _ => tracksUnit where
  toUnitFrameKept := tracksUnit_frameKept
  powerOn _ := ⟨Tables.default_sound, Tracker.fresh_sound _, fun _ e => by cases e⟩
  device bytes h := ⟨h.1.setDevice (readDevice_sound bytes), h.2⟩
  row m bytes h := ⟨h.1.setRow m (readRow_sound m bytes), h.2⟩
  zone i mode bytes h := ⟨h.1.setZone i (readZone_sound mode bytes), h.2⟩
  curve i bytes h := ⟨h.1.setCurve i (readCurve_sound bytes), h.2⟩
  written r index formed h := ⟨h.1.setString _ (h.1.written_sound formed), (h.2.noteWork (NoteWork.changeMode _ _ _ index _)).changeEnable _ _ _ index⟩
  writtenOther m r _ formed h := ⟨h.1.setString m (h.1.written_sound formed), h.2⟩
  recovered _ h := ⟨h.1, h.2.of_shape (.inr ⟨_, rfl⟩) (.inl rfl)⟩
  damped index h := ⟨h.1, h.2.dampString _ index⟩
  cleared h := ⟨h.1, h.2.of_shape (.inl rfl) (.inl rfl)⟩
  completed h := ⟨h.1, h.2.completed _ _⟩
  moved _ h := h
  aborted h := h
  sentOther _ h := h
  noGlide h := ⟨h.1, h.2.of_shape (.inl rfl) (.inl rfl)⟩
  noPress h := ⟨h.1, h.2.of_shape (.inl rfl) (.inl rfl)⟩
  taken _ h := ⟨h.1, h.2.of_shape (.inl rfl) (.inl rfl)⟩
  takenOther _ _ _ _ _ h := h
  reset full index h := by
    refine ⟨resetTb_sound full h.1, ?_⟩
    cases full <;> exact h.2.of_shape (.inr ⟨_, rfl⟩) (.inr rfl)
  lateFrame _ := tracksUnit_frameKept
  late {tb p tx n u} full index h := by
    obtain ⟨tracker, due⟩ := resetQueue_tracker_due index u
    refine ⟨resetTb_sound full h.1, ?_⟩
    cases full <;> exact h.2.of_shape (.inl tracker) (.inl (congrArg Due.lock due))
  lateReset full h := ⟨h.1, h.2.of_shape (.inr ⟨_, rfl⟩) (.inr rfl)⟩

/-- Settles O11: intervals are judged as they join a history, so sums of them and periods formed of them stay in range. -/
theorem trackerRangesKept : Obligations.TrackerRangesKept := by
  intro s t tables trackers stepped
  have kept := tracksUnit_kept.stepKept.step (fun _ _ h => h) (s := s) (t := t) (fun n => ⟨tables, trackers n⟩) stepped
  exact fun n => (kept n).2

end Sys2Proof.Machine
end

section
/-! The blocks of one string agree: what keeps the parts of the agreement (R15, R20, R30, R70, R81, R131, R142). -/

namespace Sys2Proof.Machine

/-! ### The tracker runs on -/

section
variable (t : Tracker)

@[simp] theorem filterSample_run (r : StringRecord) (y : Int) : (filterSample r y t).run = t.run := by
  unfold filterSample Tracker.setTaken
  dsimp only
  split <;> rfl

@[simp] theorem detect_run (h : Nat) : (detect h t).1.run = t.run := by
  unfold detect
  split <;> split <;> rfl

@[simp] theorem missed_run (jump : Option Nat) : (missed jump t).1.run = t.run := rfl

@[simp] theorem measure_run (r : StringRecord) (period measured : Nat) : (measure r period measured t).1.run = t.run := by
  unfold measure
  split
  · rfl
  · split
    · split <;> simp
    · simp

@[simp] theorem lockedCrossing_run (r : StringRecord) : (lockedCrossing r t).1.run = t.run := by
  unfold lockedCrossing
  split
  · split <;> simp
  · rfl

@[simp] theorem searchCrossing_run (r : StringRecord) : (searchCrossing r t).1.run = t.run := by
  unfold searchCrossing
  dsimp only
  split
  · rfl
  · split
    · rfl
    · split <;> rfl

@[simp] theorem outOfRange_run : (outOfRange t).1.run = t.run := by
  unfold outOfRange
  split <;> simp [restartSearch]

@[simp] theorem countCrossing_run (r : StringRecord) (point : Instant) : (countCrossing r point t).1.run = t.run := by
  have kept : ∀ x : Tracker × TrackOutcome, countCrossing r point t = x → x.1.run = t.run := by
    intro x e
    unfold countCrossing at e
    split at e
    · rw [← e]
    · dsimp only at e
      split at e
      · split at e <;> rw [← e]
        · exact searchCrossing_run _ r
        · exact lockedCrossing_run _ r
      · rw [← e]; exact outOfRange_run _
  exact kept _ rfl

@[simp] theorem countStale_run : (countStale t).1.run = t.run := by
  unfold countStale
  split <;> rfl

@[simp] theorem trackSample_run (r : StringRecord) (level : Nat) (y : Int) : (trackSample r level y t).1.run = t.run := by
  unfold trackSample
  dsimp only
  split <;> simp

@[simp] theorem Tracker.takeLock_run (k : CandidateNo) (period : Nat) : (t.takeLock k period).run = t.run := by
  unfold Tracker.takeLock
  split <;> rfl

@[simp] theorem Tracker.takeLockLoss_run : t.takeLockLoss.run = t.run := by
  unfold Tracker.takeLockLoss
  split <;> rfl

@[simp] theorem Tracker.takeStale_run : t.takeStale.1.run = t.run := by
  unfold Tracker.takeStale
  split <;> simp

end

theorem takeOutcome_eq (stamp : Index) (o : TrackOutcome) (u : StringUnit) : ∃ due, takeOutcome stamp o u = { u with due := due } := by
  cases o <;> exact ⟨_, rfl⟩

/-! ### The parts of the agreement -/

/-- The tracker, the envelope items and the damp timer fit the string's state (R15, R30, R39, R142). -/
def BodyFits (state : StringState) (t : Tracker) (env : Envelope) (damp : Nat) : Prop :=
  (state.tracked = true → t.run = .running) ∧
    (state.tracked = false → t = .fresh .stopped ∧ env.peak = 0 ∧ env.valley = 0 ∧ env.guard = 0 ∧ env.hold = 0) ∧
    (state = .off ∨ state.faulted = true → env.level = 0) ∧ (damp ≠ 0 → state = .damped)

/-- The note context and the pitch record fit the string's state (R70, R81). -/
def NoteFits (state : StringState) (context : Context) (pitch : Pitch) : Prop :=
  (context.isPending = true ↔ state = .attack) ∧ (context.isStruck = true ↔ state = .sounding) ∧
    (pitch ≠ .none ↔ context.isStruck = true)

/-- The fault cause and timers fit the string's state (R131). -/
def MonitorFits (state : StringState) (m : Monitor) : Prop :=
  (m.cause.isSome = true ↔ state.faulted = true) ∧ (state = .off → m = .clear) ∧ (m.wait ≠ 0 → state = .faultWait) ∧
    (m.test ≠ 0 → state = .faultTest)

/-- The blocks of a string agree on its state and on an enable. -/
structure StringUnit.Blocks (enable : Bool) (u : StringUnit) : Prop where
  off : u.state = .off ↔ enable = false
  body : BodyFits u.state u.tracker u.env u.damp
  note : NoteFits u.state u.context u.pitch
  monitor : MonitorFits u.state u.monitor

theorem StringUnit.agrees_iff (r : StringRecord) (u : StringUnit) : u.Agrees r ↔ u.Blocks r.enable ∧ u.refusing = false := by
  constructor
  · rintro ⟨off, runs, still, level, pending, struck, pitch, cause, clear, wait, test, damp, refusing⟩
    exact ⟨⟨off, ⟨runs, still, level, damp⟩, ⟨pending, struck, pitch⟩, ⟨cause, clear, wait, test⟩⟩, refusing⟩
  · rintro ⟨⟨off, ⟨runs, still, level, damp⟩, ⟨pending, struck, pitch⟩, ⟨cause, clear, wait, test⟩⟩, refusing⟩
    exact ⟨off, runs, still, level, pending, struck, pitch, cause, clear, wait, test, damp, refusing⟩

/-- The states beside OFF and the fault states. -/
def StringState.plain : StringState → Bool
  | .idle | .attack | .sounding | .damped => true
  | .off | .faultWait | .faultTest | .faultLatched => false

theorem StringState.plain_iff {state : StringState} :
    state.plain = true ↔ state ≠ .off ∧ state.faulted = false ∧ state ≠ .faultWait ∧ state ≠ .faultTest := by
  cases state <;> simp [plain, faulted]

/-! ### Bodies -/

/-- A stopped tracker and quiet envelope items fit every state without a tracker. -/
theorem BodyFits.quiet {state : StringState} (untracked : state.tracked = false) {level damp : Nat}
    (silent : state = .off ∨ state.faulted = true → level = 0) (damped : damp ≠ 0 → state = .damped) :
    BodyFits state (.fresh .stopped) { Envelope.zero with level := level } damp :=
  ⟨fun tracked => by simp [untracked] at tracked, fun _ => ⟨rfl, rfl, rfl, rfl, rfl⟩, silent, damped⟩

theorem BodyFits.silent {state : StringState} (untracked : state.tracked = false) : BodyFits state (.fresh .stopped) .zero 0 :=
  .quiet untracked (fun _ => rfl) fun h => absurd rfl h

/-- A running tracker fits ATTACK and SOUNDING, whatever the envelope. -/
theorem BodyFits.running {state : StringState} (tracked : state.tracked = true) {t : Tracker} (run : t.run = .running) (env : Envelope) :
    BodyFits state t env 0 := by
  cases state <;> simp [StringState.tracked] at tracked <;> simp [BodyFits, StringState.tracked, StringState.faulted, run]

theorem BodyFits.damp_eq {state : StringState} {t : Tracker} {env : Envelope} {damp : Nat} (h : BodyFits state t env damp)
    (other : state ≠ .damped) : damp = 0 := by
  by_contra standing
  exact other (h.2.2.2 standing)

/-- Only the tracked states tell trackers apart, by the run state. -/
theorem BodyFits.withTracker {state : StringState} {t t' : Tracker} {env : Envelope} {damp : Nat} (h : BodyFits state t env damp)
    (run : t'.run = t.run) (stopped : t = .fresh .stopped → t' = t) : BodyFits state t' env damp := by
  obtain ⟨runs, still, level, damped⟩ := h
  refine ⟨fun tracked => run.trans (runs tracked), fun untracked => ?_, level, damped⟩
  obtain ⟨fresh, rest⟩ := still untracked
  exact ⟨(stopped fresh).trans fresh, rest⟩

/-! ### Notes -/

theorem NoteFits.quiet {state : StringState} (untracked : state.tracked = false) : NoteFits state .empty .none := by
  cases state <;> simp [StringState.tracked] at untracked <;> simp [NoteFits, Context.isPending, Context.isStruck]

theorem NoteFits.pending (deadline : Deadline) : NoteFits .attack (.pending deadline) .none := by
  simp [NoteFits, Context.isPending, Context.isStruck]

theorem NoteFits.struck (note : Struck) {pitch : Pitch} (h : pitch ≠ .none) : NoteFits .sounding (.struck note) pitch := by
  simp [NoteFits, Context.isPending, Context.isStruck, h]

/-- Outside ATTACK and SOUNDING the context is EMPTY and the pitch NONE. -/
theorem NoteFits.eq_of_untracked {state : StringState} {context : Context} {pitch : Pitch} (h : NoteFits state context pitch)
    (untracked : state.tracked = false) : context = .empty ∧ pitch = .none := by
  obtain ⟨pending, struck, pitched⟩ := h
  cases context with
  | empty => exact ⟨rfl, by simpa [Context.isStruck] using pitched⟩
  | pending d => rw [pending.mp rfl] at untracked; cases untracked
  | struck note => rw [struck.mp rfl] at untracked; cases untracked

theorem NoteFits.state_of_struck {state : StringState} {note : Struck} {pitch : Pitch} (h : NoteFits state (.struck note) pitch) :
    state = .sounding := h.2.1.mp rfl

/-- A unit's note context and pitch fit its state. -/
def StringUnit.NoteAgrees (u : StringUnit) : Prop := NoteFits u.state u.context u.pitch

section
variable {u : StringUnit}

/-- A struck note with a pitch fits any unit whose context is struck. -/
theorem StringUnit.NoteAgrees.restruck (h : u.NoteAgrees) {note : Struck} (context : u.context = .struck note) {v : StringUnit}
    {note' : Struck} (state : v.state = u.state) (context' : v.context = .struck note') (pitch : v.pitch ≠ .none) : v.NoteAgrees := by
  unfold StringUnit.NoteAgrees at h ⊢
  rw [context] at h
  rw [state, h.state_of_struck, context']
  exact .struck note' pitch

/-- What keeps the kind of the context, the state and the pitch keeps the agreement. -/
theorem StringUnit.NoteAgrees.of_eq (h : u.NoteAgrees) {v : StringUnit} (state : v.state = u.state) (context : v.context = u.context)
    (pitch : v.pitch = u.pitch) : v.NoteAgrees := by
  unfold StringUnit.NoteAgrees
  rw [state, context, pitch]
  exact h

theorem StringUnit.NoteAgrees.glideDecision (h : u.NoteAgrees) (r : StringRecord) (stamp : Index) : (glideDecision r stamp u).NoteAgrees := by
  unfold Machine.glideDecision
  split
  · next note q raw context pitch =>
    split
    · dsimp only
      split
      · refine h.restruck context (offerGlide_state _ _ _) (by simp; rfl) (by simp [pitch])
      · exact h
    · exact h
  · exact h

theorem StringUnit.NoteAgrees.pressDecision (h : u.NoteAgrees) (r : StringRecord) (level : Nat) (stamp : Index) :
    (pressDecision r level stamp u).NoteAgrees := by
  unfold Machine.pressDecision
  split
  · next note q raw context pitch =>
    split
    · split
      · refine h.restruck context (offerPress_state _ _ _) (by simp; rfl) (by simp [pitch])
      · exact h
    · exact h
  · exact h

theorem StringUnit.NoteAgrees.frameMark (h : u.NoteAgrees) (stamp : Index) : (frameMark stamp u).NoteAgrees := by
  unfold Machine.frameMark
  split
  · next count context =>
    unfold StringUnit.NoteAgrees at h ⊢
    rw [context] at h
    exact h
  · next note context =>
    unfold StringUnit.NoteAgrees at h ⊢
    rw [context] at h
    exact h
  all_goals exact h

theorem StringUnit.NoteAgrees.strike (h : u.NoteAgrees) (tb : Tables) (n : StringNo) (period : Nat) (stamp : Index) (atLock : Bool) :
    (strike tb n period stamp atLock u).NoteAgrees := by
  have pitched : ∀ q raw, (if atLock then Pitch.tracking q raw else Pitch.held q raw) ≠ .none := by cases atLock <;> simp
  rcases strike_cases tb n period u with left | ⟨attack, unmatched⟩ | ⟨attack, z, found⟩
  · rw [strike_of_not_attack left]; exact h
  · rw [strike_of_no_zone attack unmatched]
    exact .struck _ (pitched _ _)
  · rw [strike_of_zone attack found]
    have struck : ∀ offered : StringUnit × Bool, offered.1.state = .sounding → offered.1.pitch ≠ .none → ∀ note : Struck,
        ({ offered.1 with context := .struck note } : StringUnit).NoteAgrees := by
      intro offered state pitch note
      unfold StringUnit.NoteAgrees
      rw [state]
      exact .struck note pitch
    have offered := struck (offerStrike (tb.strings.get n).outputMode
      (strikeRecord tb n z (rawNote (pitchOf tb.device period)) stamp atLock u) (soundingUnit tb period atLock u)) (by simp; rfl)
      (by simpa [soundingUnit] using pitched _ _)
    dsimp only
    split
    · exact (offered _).glideDecision _ _
    · exact offered _

theorem StringUnit.NoteAgrees.changeNote (h : u.NoteAgrees) {old : Struck} (context : u.context = .struck old) (pitch : u.pitch ≠ .none)
    (r : StringRecord) (raw : Nat) (stamp : Index) (correction : Bool) (note : Struck) :
    (changeNote r raw stamp correction note u).NoteAgrees := by
  unfold Machine.changeNote
  split
  · exact h.restruck context rfl rfl pitch
  · dsimp only
    split
    · exact h.restruck context (by simp) (by simp; rfl) (by simpa using pitch)
    · exact h.restruck context rfl rfl pitch

theorem StringUnit.NoteAgrees.followRaw (h : u.NoteAgrees) {old : Struck} (context : u.context = .struck old) (pitch : u.pitch ≠ .none)
    (r : StringRecord) (raw : Nat) (stamp : Index) (correction : Bool) (note : Struck) :
    (followRaw r raw stamp correction note u).NoteAgrees := by
  unfold Machine.followRaw
  refine StringUnit.NoteAgrees.glideDecision ?_ _ _
  split
  · exact h.restruck context rfl rfl pitch
  · exact h.changeNote context pitch _ _ _ _ _

/-- A struck note whose pitch is computed again. -/
theorem StringUnit.NoteAgrees.tracking (h : u.NoteAgrees) {note : Struck} (context : u.context = .struck note) (q raw : Nat) :
    ({ u with pitch := .tracking q raw } : StringUnit).NoteAgrees := h.restruck context rfl context (by simp)

theorem StringUnit.NoteAgrees.lockReport (h : u.NoteAgrees) (tb : Tables) (n : StringNo) (period : Nat) (stamp : Index) :
    (lockReport tb n period stamp u).NoteAgrees := by
  unfold Machine.lockReport
  split
  · split
    · exact h
    · exact h.strike _ _ _ _ _
    · next note context => exact (h.tracking context _ _).followRaw context (by simp) _ _ _ _ _
  · exact h

theorem StringUnit.NoteAgrees.takeReport (h : u.NoteAgrees) (tb : Tables) (n : StringNo) : (takeReport tb n u).NoteAgrees := by
  unfold Machine.takeReport
  split
  · exact h
  · next report stamp _ =>
    have taken : ({ u with due := { u.due with report := none } } : StringUnit).NoteAgrees := h
    generalize ({ u with due := { u.due with report := none } } : StringUnit) = v at taken
    cases report with
    | hit period =>
      simp only [hitReport]
      split
      · exact taken
      · next note context _ =>
        split
        · exact (taken.tracking context _ _).followRaw context (by simp) _ _ _ _ _
        · exact (taken.tracking context _ _).glideDecision _ _
      · exact taken
    | jump period =>
      simp only [jumpReport]
      split
      · exact taken
      · next note context _ => exact (taken.tracking context _ _).followRaw context (by simp) _ _ _ _ _
      · exact taken
    | searchPass sum =>
      simp only [searchPassReport]
      split
      · exact taken.strike _ _ _ _ _
      · exact taken

theorem StringUnit.NoteAgrees.lossReport (h : u.NoteAgrees) : (lossReport u).NoteAgrees := by
  unfold Machine.lossReport
  split
  · exact h
  · exact h
  · next q raw pitch =>
    obtain ⟨pending, struck, pitched⟩ := h
    refine ⟨pending, struck, ?_⟩
    rw [pitch] at pitched
    simpa using pitched

theorem StringUnit.NoteAgrees.expireDeadline (h : u.NoteAgrees) (tb : Tables) (n : StringNo) (stamp : Index) :
    (expireDeadline tb n stamp u).NoteAgrees := by
  unfold Machine.expireDeadline
  split
  · next context =>
    split
    · exact h.strike _ _ _ _ _
    · unfold StringUnit.NoteAgrees at h ⊢
      rw [context] at h
      exact h
  · exact h

/-- After a forced end the context is EMPTY and the pitch NONE (R31, R32, R34). -/
theorem StringUnit.NoteAgrees.endForced (h : u.NoteAgrees) (mode : OutputMode) (stamp : Index) (cause : LiftCause) :
    (endForced mode stamp cause u).context = .empty ∧ (endForced mode stamp cause u).pitch = .none := by
  unfold Machine.endForced
  split
  · exact ⟨endNote_context _ _ _ _, endNote_pitch _ _ _ _⟩
  · exact ⟨rfl, rfl⟩
  all_goals next state => exact NoteFits.eq_of_untracked h (by rw [state]; rfl)

/-- A unit with its context cleared fits every state without a note. -/
theorem NoteFits.of_cleared {state : StringState} (untracked : state.tracked = false) {context : Context} {pitch : Pitch}
    (cleared : context = .empty ∧ pitch = .none) : NoteFits state context pitch := by
  obtain ⟨rfl, rfl⟩ := cleared
  exact .quiet untracked

end

/-! ### Monitors -/

theorem MonitorFits.clear {state : StringState} (sound : state.faulted = false) : MonitorFits state .clear :=
  ⟨by simp [Monitor.clear, sound], fun _ => rfl, fun h => absurd rfl h, fun h => absurd rfl h⟩

/-- Outside OFF and the fault states there is no cause and no timer runs. -/
theorem MonitorFits.plain {state state' : StringState} {m : Monitor} (h : MonitorFits state m) (plain : state.plain = true)
    (plain' : state'.plain = true) : MonitorFits state' m := by
  obtain ⟨-, sound, -, -⟩ := StringState.plain_iff.mp plain
  obtain ⟨off, sound', notWait, notTest⟩ := StringState.plain_iff.mp plain'
  obtain ⟨cause, -, wait, test⟩ := h
  obtain ⟨-, -, waits, tests⟩ := StringState.plain_iff.mp plain
  exact ⟨by rw [cause, sound, sound'], fun e => absurd e off, fun e => absurd (wait e) waits, fun e => absurd (test e) tests⟩

/-- The runs do not count but in OFF. -/
theorem MonitorFits.withRuns {state : StringState} {m : Monitor} (h : MonitorFits state m) (on : state ≠ .off) (clip stuck : Nat)
    (last : Option Int) (flag : Bool) : MonitorFits state { m with clipRun := clip, stuckRun := stuck, last := last, flagSeen := flag } := by
  obtain ⟨cause, -, wait, test⟩ := h
  exact ⟨cause, fun off => absurd off on, wait, test⟩

theorem MonitorFits.cause_of_faulted {state : StringState} {m : Monitor} (h : MonitorFits state m) (faulted : state.faulted = true) :
    m.cause.isSome = true := h.1.mpr faulted

end Sys2Proof.Machine
end

section
/-! Every step keeps the blocks of every string in agreement. -/

namespace Sys2Proof.Machine

/-! ### Work that keeps a string from sounding anew -/

/-- `v` is `u` after work that lets no silent string sound and takes no reset. -/
def Calm (u v : StringUnit) : Prop := (v.state.sounds = true → u.state.sounds = true) ∧ v.refusing = u.refusing

theorem Calm.of_state {u v : StringUnit} (state : v.state = u.state) (refusing : v.refusing = u.refusing) : Calm u v :=
  ⟨fun h => state ▸ h, refusing⟩

theorem Calm.of_silent {u v : StringUnit} (silent : v.state.sounds = false) (refusing : v.refusing = u.refusing) : Calm u v :=
  ⟨fun h => by simp [silent] at h, refusing⟩

theorem Calm.of_sounding {u v : StringUnit} (sounding : u.state.sounds = true) (refusing : v.refusing = u.refusing) : Calm u v :=
  ⟨fun _ => sounding, refusing⟩

theorem NoteWork.calm {u v : StringUnit} (w : NoteWork u v) : Calm u v :=
  ⟨fun h => by
    rcases w.state with e | ⟨e, -⟩
    · rw [← e]; exact h
    · rw [e]; rfl, w.refusing⟩

theorem Calm.trans {u v w : StringUnit} (a : Calm u v) (b : Calm v w) : Calm u w := ⟨fun h => a.1 (b.1 h), b.2.trans a.2⟩

section
variable {e : Bool} {u : StringUnit} (h : u.Blocks e)
include h

theorem StringUnit.Blocks.noteAgrees : u.NoteAgrees := h.note

/-- The note engine's work keeps the other blocks in place (R90). -/
theorem StringUnit.Blocks.noteWork {v : StringUnit} (w : NoteWork u v) (note : v.NoteAgrees) : v.Blocks e := by
  obtain ⟨off, body, -, monitor⟩ := h
  rcases w.state with state | ⟨attack, sounding⟩
  · refine ⟨by rw [state]; exact off, ?_, note, ?_⟩
    · rw [state, w.tracker, w.env, w.damp]; exact body
    · rw [state, w.monitor]; exact monitor
  · rw [attack] at off body monitor
    refine ⟨by rw [sounding, ← off]; simp, ?_, note, ?_⟩
    · rw [sounding, w.tracker, w.env, w.damp, body.damp_eq (by simp)]
      exact .running rfl (body.1 rfl) _
    · rw [sounding, w.monitor]; exact monitor.plain rfl rfl

/-- Only the state, the context and the blocks count. -/
theorem StringUnit.Blocks.of_eq {v : StringUnit} (state : v.state = u.state) (tracker : v.tracker = u.tracker) (env : v.env = u.env)
    (damp : v.damp = u.damp) (context : v.context = u.context) (pitch : v.pitch = u.pitch) (monitor : v.monitor = u.monitor) : v.Blocks e :=
  ⟨by rw [state]; exact h.off, by rw [state, tracker, env, damp]; exact h.body, by rw [state, context, pitch]; exact h.note,
    by rw [state, monitor]; exact h.monitor⟩

theorem StringUnit.Blocks.withDue (due : Due) : ({ u with due := due } : StringUnit).Blocks e := h.of_eq rfl rfl rfl rfl rfl rfl rfl

theorem StringUnit.Blocks.judged {m : Monitor} (fits : MonitorFits u.state m) (due : Due) :
    ({ u with monitor := m, due := due } : StringUnit).Blocks e := ⟨h.off, h.body, h.note, fits⟩

theorem StringUnit.Blocks.withMonitor {m : Monitor} (fits : MonitorFits u.state m) : ({ u with monitor := m } : StringUnit).Blocks e :=
  h.judged fits u.due

theorem StringUnit.Blocks.withTracker {t : Tracker} (run : t.run = u.tracker.run) (stopped : u.tracker = .fresh .stopped → t = u.tracker) :
    ({ u with tracker := t } : StringUnit).Blocks e := ⟨h.off, h.body.withTracker run stopped, h.note, h.monitor⟩

/-- A string on keeps its enable in every state on. -/
theorem StringUnit.Blocks.enabled (on : u.state ≠ .off) {state : StringState} (on' : state ≠ .off) : state = .off ↔ e = false :=
  ⟨fun off => absurd off on', fun disabled => absurd (h.off.mpr disabled) on⟩

/-- A string goes from a state on to one without a tracker, silent. -/
theorem StringUnit.Blocks.silenced (on : u.state ≠ .off) {state : StringState} (on' : state ≠ .off) (untracked : state.tracked = false)
    {v : StringUnit} (cleared : v.context = .empty ∧ v.pitch = .none) {m : Monitor} (monitor : MonitorFits state m) :
    ({ v.silenceIn state with monitor := m } : StringUnit).Blocks e :=
  ⟨h.enabled on on', .silent untracked, .of_cleared untracked cleared, monitor⟩

/-- A string settles in IDLE or DAMPED with its level kept. -/
theorem StringUnit.Blocks.settled (plain : u.state.plain = true) {state : StringState} (plain' : state.plain = true)
    (untracked : state.tracked = false) {v : StringUnit} (cleared : v.context = .empty ∧ v.pitch = .none) (monitor : v.monitor = u.monitor)
    {damp : Nat} (damped : damp ≠ 0 → state = .damped) : ({ v.settleIn state with damp := damp } : StringUnit).Blocks e := by
  obtain ⟨on, -⟩ := StringState.plain_iff.mp plain
  obtain ⟨on', sound, -⟩ := StringState.plain_iff.mp plain'
  refine ⟨h.enabled on on', .quiet untracked (fun silent => ?_) damped, .of_cleared untracked cleared, ?_⟩
  · rcases silent with off | faulted
    · exact absurd off on'
    · simp [sound] at faulted
  · show MonitorFits state v.monitor
    rw [monitor]
    exact h.monitor.plain plain plain'

/-- An attack from a state on, outside the fault states (R21, R29). -/
theorem StringUnit.Blocks.beginAttack (plain : u.state.plain = true) {v : StringUnit} (monitor : v.monitor = u.monitor)
    (damp : v.damp = 0) (r : StringRecord) (level : Nat) : (beginAttack r level v).Blocks e := by
  obtain ⟨on, -⟩ := StringState.plain_iff.mp plain
  refine ⟨h.enabled on (by simp [Machine.beginAttack]), ?_, NoteFits.pending _, ?_⟩
  · show BodyFits .attack (.fresh .running) _ v.damp
    rw [damp]
    exact .running rfl rfl _
  · show MonitorFits .attack v.monitor
    rw [monitor]
    exact h.monitor.plain plain rfl

theorem StringUnit.Blocks.envelopeSample (r : StringRecord) (y : Int) (stamp : Index) : (envelopeSample r y stamp u).Blocks e := by
  have tracked : ∀ env due, u.state.tracked = true → ({ u with env := env, due := due } : StringUnit).Blocks e := fun env due on =>
    ⟨h.off, by have damp := h.body.damp_eq (fun d => by rw [d] at on; cases on)
               show BodyFits u.state u.tracker env u.damp
               rw [damp]
               exact .running on (h.body.1 on) env, h.note, h.monitor⟩
  unfold Machine.envelopeSample
  generalize nextLevel r.decayShift u.env.level y = level
  dsimp only
  split
  · next idle =>
    unfold envelopeIdle
    split
    · exact h.beginAttack (by rw [idle]; rfl) rfl (h.body.damp_eq (by simp [idle])) r level
    · obtain ⟨runs, still, -, damped⟩ := h.body
      exact ⟨h.off, ⟨runs, still, by simp [idle, StringState.faulted], damped⟩, h.note, h.monitor⟩
  · next attack =>
    unfold envelopeAttack
    have on : u.state.tracked = true := by rw [attack]; rfl
    have marked : ∀ v : StringUnit, v.Blocks e → (frameMark stamp v).Blocks e := fun v hv =>
      hv.noteWork (NoteWork.frameMark _ _) (hv.noteAgrees.frameMark stamp)
    dsimp only
    refine marked _ ?_
    split
    · exact tracked _ _ on
    · exact tracked _ _ on
  · next sounding =>
    unfold envelopeSounding
    have on : u.state.tracked = true := by rw [sounding]; rfl
    dsimp only
    split
    · have due := tracked { u.env with level := level, valley := min u.env.valley level, guard := u.env.guard - 1, hold := nextHold r level u.env.hold }
        { u.due with release := some stamp } on
      exact due.noteWork (NoteWork.frameMark _ _) (due.noteAgrees.frameMark stamp)
    · split
      · exact h.beginAttack (by rw [sounding]; rfl) (by simp) (by simpa using h.body.damp_eq (by simp [sounding])) r level
      · have counted := tracked { u.env with level := level, valley := min u.env.valley level, guard := u.env.guard - 1, hold := nextHold r level u.env.hold }
          u.due on
        exact counted.noteWork ((NoteWork.frameMark _ _).trans (NoteWork.pressDecision _ _ _ _))
          ((counted.noteAgrees.frameMark stamp).pressDecision _ _ _)
  · next damped =>
    obtain ⟨runs, still, -, -⟩ := h.body
    refine ⟨h.off, ⟨runs, still, fun silent => ?_, fun _ => damped⟩, h.note, h.monitor⟩
    have silent : u.state = .off ∨ u.state.faulted = true := silent
    simp [damped, StringState.faulted] at silent
  all_goals exact h

theorem StringUnit.Blocks.takeOutcome (stamp : Index) (o : TrackOutcome) : (takeOutcome stamp o u).Blocks e := by
  obtain ⟨due, eq⟩ := takeOutcome_eq stamp o u
  rw [eq]
  exact h.withDue due

theorem StringUnit.Blocks.trackerSample (tb : Tables) (n : StringNo) (y : Int) (stamp : Index) : (trackerSample tb n y stamp u).Blocks e := by
  unfold Machine.trackerSample
  split
  · exact h
  · next running =>
    have kept := trackSample_run u.tracker (tb.strings.get n) u.env.level y
    generalize trackSample (tb.strings.get n) u.env.level y u.tracker = x at kept
    refine StringUnit.Blocks.takeOutcome (h.withTracker kept fun fresh => ?_) _ _
    rw [fresh] at running
    cases running

theorem StringUnit.Blocks.monitorSample (r : StringRecord) (x : Int) (flag : Bool) (stamp : Index) : (monitorSample r x flag stamp u).Blocks e := by
  have runs : u.state ≠ .off → MonitorFits u.state (updateRuns r x flag u.monitor) := fun on => h.monitor.withRuns on _ _ _ _
  unfold Machine.monitorSample
  split
  · exact h
  · next state => exact h.judged (runs (by simp [state])) _
  · next state => exact h.judged (runs (by simp [state])) _
  · next state => exact h.judged (runs (by simp [state])) _
  · next state => exact h.judged (runs (by simp [state])) _
  · next state =>
    obtain ⟨cause, off, -, test⟩ := runs (by simp [state])
    exact h.judged (m := { updateRuns r x flag u.monitor with wait := (updateRuns r x flag u.monitor).wait - 1 })
      ⟨cause, fun o => by simp [state] at o, fun _ => state, test⟩ _
  · next state =>
    have fits := runs (by simp [state])
    generalize updateRuns r x flag u.monitor = m at fits
    unfold judgeTest
    dsimp only
    split
    · refine ⟨h.enabled (by simp [state]) (by simp), ?_, ?_, ?_⟩
      · have body := h.body
        rw [state] at body
        obtain ⟨-, still, level, -⟩ := body
        exact ⟨fun tracked => by simp [StringState.tracked] at tracked, fun _ => still rfl, fun _ => level (.inr rfl),
          fun standing => absurd (h.body.damp_eq (by simp [state])) standing⟩
      · exact .of_cleared rfl (h.note.eq_of_untracked (by simp [state, StringState.tracked]))
      · exact ⟨by simp [StringState.faulted], by simp, fun _ => rfl, by simp⟩
    · obtain ⟨cause, off, wait, -⟩ := fits
      exact h.judged (m := { m with test := m.test - 1 }) ⟨cause, fun o => by simp [state] at o, wait, fun _ => state⟩ _
  · next state => exact h.withMonitor (runs (by simp [state]))

theorem StringUnit.Blocks.takeLock (tb : Tables) (n : StringNo) : (takeLock tb n u).Blocks e := by
  unfold Machine.takeLock
  split
  · exact h
  · next report _ =>
    have locked := (h.withTracker (u.tracker.takeLock_run report.k report.period) fun fresh => by rw [fresh]; rfl).withDue
      { u.due with lock := none }
    exact locked.noteWork (NoteWork.lockReport _ _ _ _ _) (locked.noteAgrees.lockReport _ _ _ _)

theorem StringUnit.Blocks.enterFault (plain : u.state.plain = true) (r : StringRecord) (cause : Cause) (stamp : Index) :
    (enterFault r cause stamp u).Blocks e := by
  obtain ⟨on, -⟩ := StringState.plain_iff.mp plain
  have timers : u.monitor.test = 0 := by
    by_contra standing
    have := h.monitor.2.2.2 standing
    rw [this] at plain; cases plain
  unfold Machine.enterFault
  have silent := h.silenced (state := if r.faultLatch then .faultLatched else .faultWait) on (by split <;> simp) (by split <;> rfl)
    (h.noteAgrees.endForced r.outputMode stamp .fault)
    (m := { u.monitor with cause := some cause, retries := 0, wait := if r.faultLatch then 0 else 1024 * r.faultWait, test := 0 })
    ⟨by split <;> simp [StringState.faulted], by split <;> simp, by split <;> simp, by simp⟩
  exact silent.of_eq rfl rfl rfl rfl rfl rfl rfl

theorem StringUnit.Blocks.recoverString (faulted : u.state.faulted = true) : (recoverString u).Blocks e := by
  have on : u.state ≠ .off := fun off => by rw [off] at faulted; cases faulted
  have untracked : u.state.tracked = false := by revert faulted; cases u.state <;> simp [StringState.faulted, StringState.tracked]
  exact h.silenced on (by simp) rfl (h.note.eq_of_untracked untracked)
    ⟨by simp [StringState.faulted], by simp, by simp, by simp⟩

theorem StringUnit.Blocks.takeRelease (r : StringRecord) : (takeRelease r u).Blocks e := by
  unfold Machine.takeRelease
  split
  · exact h
  · have taken := h.withDue { u.due with release := none }
    dsimp only
    split
    · next attack =>
      have quiet := taken.settled (v := StringUnit.clearContext _) (by simp only [attack]; rfl) (state := .idle) rfl rfl ⟨rfl, rfl⟩ rfl
        (fun standing => absurd (h.body.damp_eq (by simp only [attack]; simp)) standing)
      exact quiet.of_eq rfl rfl rfl rfl rfl rfl rfl
    · next sounding =>
      have plain : u.state.plain = true := by simp only [sounding]; rfl
      have still : ({ u with due := { u.due with release := none } } : StringUnit).damp = 0 :=
        h.body.damp_eq (by simp only [sounding]; simp)
      exact taken.settled plain rfl rfl ⟨endNote_context _ _ _ _, endNote_pitch _ _ _ _⟩ (endNote_monitor _ _ _ _)
        (damp := (Machine.endNote _ _ _ _).damp) fun standing => absurd ((endNote_damp _ _ _ _).trans still) standing
    all_goals exact taken

theorem StringUnit.Blocks.unitEvent (tb : Tables) (n : StringNo) (event : Event) : (unitEvent tb n event u).Blocks e := by
  cases event with
  | report => exact h.noteWork (NoteWork.takeReport tb n u) (h.noteAgrees.takeReport tb n)
  | release => exact h.takeRelease _
  | strikeDeadlineExpiry =>
    simp only [Machine.unitEvent, takeExpiry]
    split
    · exact h
    · have locked := (h.takeLock tb n).withDue { (Machine.takeLock tb n u).due with expiry := none }
      exact locked.noteWork (NoteWork.expireDeadline _ _ _ _) (locked.noteAgrees.expireDeadline _ _ _)
  | dampExit =>
    simp only [Machine.unitEvent, takeDampExit]
    have taken := h.withDue { u.due with dampExit := false }
    split
    · split
      · next exits =>
        obtain ⟨runs, still, level, -⟩ := h.body
        obtain ⟨damped, elapsed⟩ := exits
        have untracked : u.state.tracked = false := by simp only [damped]; rfl
        refine ⟨h.enabled (by simp only [damped]; simp) (by simp), ⟨by simp [StringState.tracked], fun _ => still untracked,
          by simp [StringState.faulted], fun standing => absurd elapsed standing⟩,
          .of_cleared rfl (h.note.eq_of_untracked untracked), h.monitor.plain (by simp only [damped]; rfl) rfl⟩
      · exact taken
    · exact h
  | staleCrossing =>
    simp only [Machine.unitEvent, takeStale]
    split
    · exact h
    · have kept := u.tracker.takeStale_run
      have stopped : u.tracker = .fresh .stopped → u.tracker.takeStale.1 = u.tracker := fun fresh => by rw [fresh]; rfl
      generalize u.tracker.takeStale = x at kept stopped
      exact StringUnit.Blocks.takeOutcome ((h.withTracker kept stopped).withDue _) _ _
  | lockLoss =>
    simp only [Machine.unitEvent, takeLockLoss]
    split
    · exact h
    · have lost : ({ u with tracker := u.tracker.takeLockLoss, due := { u.due with lockLoss := none },
                            counters := { u.counters with lockLosses := bump u.counters.lockLosses } } : StringUnit).Blocks e :=
        (h.withTracker u.tracker.takeLockLoss_run fun fresh => by rw [fresh]; rfl).of_eq rfl rfl rfl rfl rfl rfl rfl
      exact lost.noteWork (NoteWork.lossReport _) lost.noteAgrees.lossReport
  | lock => exact h.takeLock tb n
  | faultEntry =>
    simp only [Machine.unitEvent, faultEntryUnit]
    split
    · exact h
    · have taken := h.withDue { u.due with fault := none }
      split
      · next state => exact taken.enterFault (by simp only [state]; rfl) _ _ _
      · next state => exact taken.enterFault (by simp only [state]; rfl) _ _ _
      · next state => exact taken.enterFault (by simp only [state]; rfl) _ _ _
      · next state => exact taken.enterFault (by simp only [state]; rfl) _ _ _
      all_goals exact taken
  | faultWaitEnd =>
    simp only [Machine.unitEvent, takeWaitEnd]
    have taken := h.withDue { u.due with waitEnd := false }
    split
    · split
      · next ends =>
        obtain ⟨state, elapsed⟩ := ends
        have untracked : u.state.tracked = false := by simp only [state]; rfl
        obtain ⟨-, still, level, -⟩ := h.body
        obtain ⟨cause, -, -, -⟩ := h.monitor
        have faulted : u.state.faulted = true := by simp only [state]; rfl
        exact ⟨h.enabled (by simp only [state]; simp) (by simp),
          ⟨by simp [StringState.tracked], fun _ => still untracked, fun _ => level (.inr faulted),
            fun standing => absurd (h.body.damp_eq (by simp only [state]; simp)) standing⟩,
          .of_cleared rfl (h.note.eq_of_untracked untracked),
          ⟨⟨fun _ => rfl, fun _ => cause.mpr faulted⟩, by simp, fun standing => absurd elapsed standing, fun _ => rfl⟩⟩
      · exact taken
    · exact h
  | recovery =>
    simp only [Machine.unitEvent, recoveryUnit]
    have taken := h.withDue { u.due with recovery := false }
    split
    · split
      · next ends => exact taken.recoverString (by simp only [ends.1]; rfl)
      · exact taken
    · exact h

theorem StringUnit.Blocks.huntString (r : StringRecord) (stamp : Index) : (huntString r stamp u).Blocks e := by
  have plain : u.state.plain = true → ({ (Machine.endForced r.outputMode stamp .link u).silenceIn .idle with
      monitor := { u.monitor with clipRun := 0, stuckRun := 0, flagSeen := false, last := none } } : StringUnit).Blocks e := fun plain => by
    obtain ⟨on, -⟩ := StringState.plain_iff.mp plain
    exact h.silenced on (by simp) rfl (h.noteAgrees.endForced r.outputMode stamp .link) ((h.monitor.withRuns on _ _ _ _).plain plain rfl)
  unfold Machine.huntString
  dsimp only
  split
  · next state => exact plain (by rw [state]; rfl)
  · next state => exact plain (by rw [state]; rfl)
  · next state => exact plain (by rw [state]; rfl)
  · next state => exact plain (by rw [state]; rfl)
  · next state =>
    have clear := h.monitor.2.1 state
    rw [clear]
    exact h.withMonitor (by rw [state]; exact .clear rfl)
  · next state => exact h.withMonitor (h.monitor.withRuns (by simp [state]) _ _ _ _)
  · next state => exact h.withMonitor (h.monitor.withRuns (by simp [state]) _ _ _ _)
  · next state => exact h.withMonitor (h.monitor.withRuns (by simp [state]) _ _ _ _)

theorem StringUnit.Blocks.changeEnable (new : Bool) (mode : OutputMode) (stamp : Index) : (changeEnable e new mode stamp u).Blocks new := by
  unfold Machine.changeEnable
  split
  · next same => rw [← same]; exact h
  · next changed =>
    split
    · next enabled =>
      have off : u.state = .off := h.off.mpr (by cases e <;> simp_all)
      rw [if_pos off]
      exact ⟨by simp [enabled], .silent rfl, .of_cleared rfl (h.note.eq_of_untracked (by rw [off]; rfl)), .clear rfl⟩
    · next disabled =>
      exact ⟨by simpa using disabled, .silent rfl, .of_cleared rfl (h.noteAgrees.endForced mode stamp .disabled), .clear rfl⟩

theorem StringUnit.Blocks.dampString (r : StringRecord) (stamp : Index) : (dampString r stamp u).1.Blocks e := by
  unfold Machine.dampString
  split
  · next sounding =>
    exact h.settled (by rw [sounding]; rfl) rfl rfl ⟨endNote_context _ _ _ _, endNote_pitch _ _ _ _⟩ (endNote_monitor _ _ _ _) fun _ => rfl
  · next attack => exact h.settled (v := u.clearContext) (by rw [attack]; rfl) rfl rfl ⟨rfl, rfl⟩ rfl fun _ => rfl
  · next damped =>
    obtain ⟨runs, still, level, -⟩ := h.body
    exact ⟨h.off, ⟨runs, still, level, fun _ => damped⟩, h.note, h.monitor⟩
  all_goals exact h

end

/-- A reset puts a string's blocks in agreement, whatever they were: OFF stays OFF under RESET TRACKING (R35, R56, R105, R146). -/
theorem StringUnit.blocks_resetString {e : Bool} (full : Bool) {u : StringUnit} (enabled : if full then e = true else (u.state = .off ↔ e = false)) :
    (resetString full u).Blocks e := by
  have silent : ∀ state : StringState, state.tracked = false → state.faulted = false → (state = .off ↔ e = false) →
      ({ u.clearContext.silenceIn state with monitor := .clear, due := .none, refusing := false } : StringUnit).Blocks e :=
    fun state untracked sound off => ⟨off, .silent untracked, .quiet untracked, .clear sound⟩
  unfold resetString
  cases full
  · simp only [Bool.false_eq_true, if_false] at enabled
    by_cases off : u.state = .off
    · rw [if_pos ⟨off, rfl⟩]
      exact silent .off rfl rfl (by simpa [off] using enabled)
    · rw [if_neg fun h => off h.1]
      exact silent .idle rfl rfl (by simpa [off] using enabled)
  · simp only [if_true] at enabled
    rw [if_neg (by simp)]
    exact silent .idle rfl rfl (by simp [enabled])

end Sys2Proof.Machine
end

section
/-! The agreement of a string's blocks as an invariant of every step. -/

namespace Sys2Proof.Machine

/-! ### No work but the envelope's makes a silent string sound -/

section
variable (u : StringUnit)

theorem calm_trackerSample (tb : Tables) (n : StringNo) (y : Int) (stamp : Index) : Calm u (trackerSample tb n y stamp u) := by
  unfold trackerSample
  split
  · exact .of_state rfl rfl
  · dsimp only
    obtain ⟨due, e⟩ := takeOutcome_eq stamp (trackSample (tb.strings.get n) u.env.level y u.tracker).2
      { u with tracker := (trackSample (tb.strings.get n) u.env.level y u.tracker).1 }
    rw [e]
    exact .of_state rfl rfl

theorem calm_monitorSample (r : StringRecord) (x : Int) (flag : Bool) (stamp : Index) : Calm u (monitorSample r x flag stamp u) := by
  unfold monitorSample countWait judgeTest
  dsimp only
  split
  all_goals first
    | exact .of_state rfl rfl
    | (split
       · exact .of_silent rfl rfl
       · exact .of_state rfl rfl)

theorem calm_takeLock (tb : Tables) (n : StringNo) : Calm u (takeLock tb n u) := by
  unfold takeLock
  split
  · exact .of_state rfl rfl
  · next report _ =>
    have locked : Calm u { u with tracker := u.tracker.takeLock report.k report.period, due := { u.due with lock := none } } :=
      .of_state rfl rfl
    exact locked.trans (NoteWork.lockReport _ _ _ _ _).calm

theorem calm_enterFault (r : StringRecord) (cause : Cause) (stamp : Index) : Calm u (enterFault r cause stamp u) := by
  refine .of_silent ?_ (endForced_refusing _ _ _ _)
  show StringState.sounds (if r.faultLatch then .faultLatched else .faultWait) = false
  split <;> rfl

theorem calm_unitEvent (tb : Tables) (n : StringNo) (e : Event) : Calm u (unitEvent tb n e u) := by
  cases e with
  | report => exact (NoteWork.takeReport tb n u).calm
  | release =>
    simp only [unitEvent, takeRelease]
    split
    · exact .of_state rfl rfl
    · split
      · exact .of_silent rfl rfl
      · exact .of_silent rfl (endNote_refusing _ _ _ _)
      all_goals exact .of_state rfl rfl
  | strikeDeadlineExpiry =>
    simp only [unitEvent, takeExpiry]
    split
    · exact .of_state rfl rfl
    · refine (calm_takeLock u tb n).trans ?_
      have taken : Calm (takeLock tb n u) { takeLock tb n u with due := { (takeLock tb n u).due with expiry := none } } := .of_state rfl rfl
      exact taken.trans (NoteWork.expireDeadline _ _ _ _).calm
  | dampExit =>
    simp only [unitEvent, takeDampExit]
    split
    · split
      · exact .of_silent rfl rfl
      · exact .of_state rfl rfl
    · exact .of_state rfl rfl
  | staleCrossing =>
    simp only [unitEvent, takeStale]
    split
    · exact .of_state rfl rfl
    · next stamp _ =>
      obtain ⟨due, e⟩ := takeOutcome_eq stamp u.tracker.takeStale.2 { u with tracker := u.tracker.takeStale.1, due := { u.due with stale := none } }
      rw [e]
      exact .of_state rfl rfl
  | lockLoss =>
    simp only [unitEvent, takeLockLoss]
    split
    · exact .of_state rfl rfl
    · have lost : Calm u { u with tracker := u.tracker.takeLockLoss, due := { u.due with lockLoss := none },
                                  counters := { u.counters with lockLosses := bump u.counters.lockLosses } } := .of_state rfl rfl
      exact lost.trans (NoteWork.lossReport _).calm
  | lock => exact calm_takeLock u tb n
  | faultEntry =>
    simp only [unitEvent, faultEntryUnit]
    split
    · exact .of_state rfl rfl
    · have taken : Calm u { u with due := { u.due with fault := none } } := .of_state rfl rfl
      split
      · exact taken.trans (calm_enterFault _ _ _ _)
      · exact taken.trans (calm_enterFault _ _ _ _)
      · exact taken.trans (calm_enterFault _ _ _ _)
      · exact taken.trans (calm_enterFault _ _ _ _)
      all_goals exact taken
  | faultWaitEnd =>
    simp only [unitEvent, takeWaitEnd]
    split
    · split
      · exact .of_silent rfl rfl
      · exact .of_state rfl rfl
    · exact .of_state rfl rfl
  | recovery =>
    simp only [unitEvent, recoveryUnit]
    split
    · split
      · exact .of_silent rfl rfl
      · exact .of_state rfl rfl
    · exact .of_state rfl rfl

theorem calm_dampString (r : StringRecord) (stamp : Index) : Calm u (dampString r stamp u).1 := by
  unfold dampString
  split
  · next state => exact .of_sounding (by rw [state]; rfl) (endNote_refusing _ _ _ _)
  · next state => exact .of_sounding (by rw [state]; rfl) rfl
  all_goals exact .of_state rfl rfl

theorem calm_changeEnable (old new : Bool) (mode : OutputMode) (stamp : Index) : Calm u (changeEnable old new mode stamp u) := by
  unfold changeEnable
  split
  · exact .of_state rfl rfl
  · split
    · split
      · exact .of_silent rfl rfl
      · exact .of_state rfl rfl
    · exact .of_silent rfl (endForced_refusing _ _ _ _)

theorem huntString_silent (r : StringRecord) (stamp : Index) : (huntString r stamp u).state.sounds = false := by
  unfold huntString
  dsimp only
  split
  all_goals first
    | rfl
    | (next state => rw [state]; rfl)

theorem refusing_huntString (r : StringRecord) (stamp : Index) : (huntString r stamp u).refusing = u.refusing := by
  unfold huntString
  dsimp only
  split <;> first | exact endForced_refusing _ _ _ _ | rfl

theorem refusing_envelopeSample (r : StringRecord) (y : Int) (stamp : Index) : (envelopeSample r y stamp u).refusing = u.refusing := by
  unfold envelopeSample
  dsimp only
  split
  · unfold envelopeIdle
    split <;> rfl
  · unfold envelopeAttack
    refine (NoteWork.frameMark _ _).refusing.trans ?_
    split <;> rfl
  · unfold envelopeSounding
    dsimp only
    split
    · exact (NoteWork.frameMark _ _).refusing
    · split
      · exact endNote_refusing _ _ _ _
      · exact ((NoteWork.frameMark _ _).trans (NoteWork.pressDecision _ _ _ _)).refusing
  all_goals rfl

theorem changeMode_note (old new : OutputMode) (inFlight : Bool) (stamp : Index) :
    (changeMode old new inFlight stamp u).pitch = u.pitch ∧
      ((changeMode old new inFlight stamp u).context = u.context ∨ (changeMode old new inFlight stamp u).context = u.context.unannounce) := by
  unfold changeMode mutedEntry
  split
  · dsimp only
    split <;> exact ⟨rfl, .inr rfl⟩
  · exact ⟨rfl, .inl rfl⟩

end

theorem NoteFits.unannounce {state : StringState} {context : Context} {pitch : Pitch} (h : NoteFits state context pitch) :
    NoteFits state context.unannounce pitch := by
  cases context <;> exact h

theorem StringUnit.Blocks.changeMode {e : Bool} {u : StringUnit} (h : u.Blocks e) (old new : OutputMode) (inFlight : Bool) (stamp : Index) :
    (changeMode old new inFlight stamp u).Blocks e := by
  obtain ⟨pitch, context⟩ := changeMode_note u old new inFlight stamp
  have state : (Machine.changeMode old new inFlight stamp u).state = u.state := by
    unfold Machine.changeMode mutedEntry
    split
    · dsimp only; split <;> rfl
    · rfl
  refine h.noteWork (NoteWork.changeMode _ _ _ _ _) ?_
  unfold StringUnit.NoteAgrees
  rw [state, pitch]
  rcases context with e | e <;> rw [e]
  · exact h.note
  · exact h.note.unannounce

/-! ### The invariant of one string -/

/-- The blocks of a string agree, its queue refuses nothing, and the string is silent while the pickup receiver is in HUNT. -/
def agreesUnit : UnitPred := fun tb p _ n u =>
  u.Blocks (tb.strings.get n).enable ∧ u.refusing = false ∧ (p = .hunt → u.state.sounds = false)

/-- A late string's blocks agree while its queue waits for it: on the enable it had, which under RESET FULL is no longer the record's. -/
def lateAgrees (full : Bool) : UnitPred := fun tb _ _ n u =>
  u.refusing = true ∧ ∃ e, u.Blocks e ∧ if full then (tb.strings.get n).enable = true else e = (tb.strings.get n).enable

section
variable {tb : Tables} {p : SyncState} {tx : TxState} {n : StringNo} {u v : StringUnit}

theorem agreesUnit_calm (h : agreesUnit tb p tx n u) (calm : Calm u v)
    (blocks : u.Blocks (tb.strings.get n).enable → v.Blocks (tb.strings.get n).enable) : agreesUnit tb p tx n v := by
  obtain ⟨agree, refusing, silent⟩ := h
  refine ⟨blocks agree, calm.2.trans refusing, fun hunt => ?_⟩
  by_contra sounds
  have := silent hunt
  rw [calm.1 (by simpa using sounds)] at this
  cases this

theorem lateAgrees_of {full : Bool} (h : lateAgrees full tb p tx n u) (refusing : v.refusing = u.refusing) {p' : SyncState}
    (blocks : ∀ e, u.Blocks e → v.Blocks e) : lateAgrees full tb p' tx n v := by
  obtain ⟨refuses, e, agree, enable⟩ := h
  exact ⟨refusing.trans refuses, e, blocks e agree, enable⟩

end

theorem agreesUnit_frameKept : UnitFrameKept agreesUnit where
  envelope y index h := ⟨h.1.envelopeSample _ y index, (refusing_envelopeSample _ _ y index).trans h.2.1, fun hunt => by cases hunt⟩
  tracker y index h := agreesUnit_calm h (calm_trackerSample _ _ _ y index) fun b => b.trackerSample _ _ y index
  monitor x flag index h := agreesUnit_calm h (calm_monitorSample _ _ x flag index) fun b => b.monitorSample _ x flag index
  event e h := agreesUnit_calm h (calm_unitEvent _ _ _ e) fun b => b.unitEvent _ _ e
  hunt index h := ⟨h.1.huntString _ index, (refusing_huntString _ _ index).trans h.2.1, fun _ => huntString_silent _ _ index⟩
  sync h := ⟨h.1, h.2.1, fun hunt => by cases hunt⟩
  dropped h := agreesUnit_calm h (.of_state rfl rfl) fun b => b.withDue _

theorem lateAgrees_frameKept (full : Bool) : UnitFrameKept (lateAgrees full) where
  envelope y index h := lateAgrees_of h (refusing_envelopeSample _ _ y index) fun _ b => b.envelopeSample _ y index
  tracker y index h := lateAgrees_of h (calm_trackerSample _ _ _ y index).2 fun _ b => b.trackerSample _ _ y index
  monitor x flag index h := lateAgrees_of h (calm_monitorSample _ _ x flag index).2 fun _ b => b.monitorSample _ x flag index
  event e h := lateAgrees_of h (calm_unitEvent _ _ _ e).2 fun _ b => b.unitEvent _ _ e
  hunt index h := lateAgrees_of h (refusing_huntString _ _ index) fun _ b => b.huntString _ index
  sync h := h
  dropped {_ _ _ _ u} h := lateAgrees_of (v := u.dropReports) h rfl fun _ b => b.withDue _

theorem StringUnit.powerOn_blocks : StringUnit.powerOn.Blocks true :=
  ⟨by simp [powerOn], .silent rfl, .quiet rfl, .clear rfl⟩

/-- A write of its record keeps a string's blocks in agreement, with the enable written (R32, R114, R145). -/
theorem StringUnit.Blocks.written {e : Bool} {u : StringUnit} (h : u.Blocks e) (old new : OutputMode) (inFlight : Bool) (stamp : Index)
    (enable : Bool) (mode : OutputMode) : (Machine.changeEnable e enable mode stamp (Machine.changeMode old new inFlight stamp u)).Blocks enable :=
  (h.changeMode old new inFlight stamp).changeEnable enable mode stamp

theorem resetString_off (full : Bool) (u : StringUnit) : (resetString full u).state.sounds = false := by
  show StringState.sounds (if _ then StringState.off else StringState.idle) = false
  split <;> rfl

theorem resetQueue_state (stamp : Index) (u : StringUnit) : (resetQueue stamp u).state = u.state := by
  unfold resetQueue
  dsimp only
  split <;> rfl

theorem resetTb_enable (full : Bool) (tb : Tables) (n : StringNo) :
    ((resetTb full tb).strings.get n).enable = if full then true else (tb.strings.get n).enable := by
  cases full
  · rfl
  · simp [resetTb, Tables.default, StringRecord.default]

theorem completeUnit_blocks {e : Bool} {u : StringUnit} (h : u.Blocks e) (item : TxItem) (n : StringNo) : (completeUnit item n u).Blocks e := by
  cases item <;> simp only [completeUnit] <;> (try split) <;> exact h.of_eq rfl rfl rfl rfl rfl rfl rfl

theorem completeUnit_calm (item : TxItem) (n : StringNo) (u : StringUnit) : Calm u (completeUnit item n u) := by
  cases item <;> simp only [completeUnit] <;> (try split) <;> exact .of_state rfl rfl

theorem agreesUnit_kept : UnitKept agreesUnit lateAgrees where
  toUnitFrameKept := agreesUnit_frameKept
  powerOn n := ⟨by simpa [Tables.default, StringRecord.default] using StringUnit.powerOn_blocks, rfl, fun _ => rfl⟩
  device _ h := h
  row _ _ h := h
  zone _ _ _ h := h
  curve _ _ h := h
  written {tb p tx n u} r index _ h := by
    obtain ⟨agree, refusing, silent⟩ := h
    have calm := (NoteWork.changeMode (tb.strings.get n).outputMode r.outputMode (strikesOrShifts n tx) index u).calm.trans
      (calm_changeEnable _ (tb.strings.get n).enable r.enable r.outputMode index)
    refine ⟨?_, calm.2.trans refusing, fun hunt => ?_⟩
    · simpa using agree.written (tb.strings.get n).outputMode r.outputMode (strikesOrShifts n tx) index r.enable r.outputMode
    · by_contra sounds
      have := silent hunt
      rw [calm.1 (by simpa using sounds)] at this
      cases this
  writtenOther {tb p tx n u} m r other _ h := by
    unfold agreesUnit
    dsimp only
    rw [Six.get_set_of_ne _ _ other]
    exact h
  recovered faulted h := agreesUnit_calm h (.of_silent rfl rfl) fun b => b.recoverString faulted
  damped index h := agreesUnit_calm h (calm_dampString _ _ index) fun b => b.dampString _ index
  cleared h := agreesUnit_calm h (.of_state rfl rfl) fun b => b.of_eq rfl rfl rfl rfl rfl rfl rfl
  completed h := agreesUnit_calm h (completeUnit_calm _ _ _) fun b => completeUnit_blocks b _ _
  moved _ h := h
  aborted h := h
  sentOther _ h := h
  noGlide h := agreesUnit_calm h (.of_state rfl rfl) fun b => b.of_eq rfl rfl rfl rfl rfl rfl rfl
  noPress h := agreesUnit_calm h (.of_state rfl rfl) fun b => b.of_eq rfl rfl rfl rfl rfl rfl rfl
  taken _ h := agreesUnit_calm h (.of_state rfl rfl) fun b => b.of_eq rfl rfl rfl rfl rfl rfl rfl
  takenOther _ _ _ _ _ h := h
  reset {tb p tx n u} full index h := by
    have enabled : if full then ((resetTb full tb).strings.get n).enable = true
        else ((resetQueue index u).state = .off ↔ ((resetTb full tb).strings.get n).enable = false) := by
      rw [resetQueue_state, resetTb_enable]
      cases full
      · exact h.1.off
      · rfl
    have reset := StringUnit.blocks_resetString full enabled
    have silent := resetString_off full (resetQueue index u)
    refine ⟨?_, ?_, fun _ => ?_⟩
    · cases full <;> exact reset.of_eq rfl rfl rfl rfl rfl rfl rfl
    · cases full <;> rfl
    · cases full <;> exact silent
  lateFrame := lateAgrees_frameKept
  late {tb p tx n u} full index h := by
    have flushed : (lateUnit full index u).refusing = true ∧ (lateUnit full index u).Blocks (tb.strings.get n).enable := by
      unfold lateUnit resetQueue
      dsimp only
      split <;> split <;> exact ⟨rfl, h.1.of_eq rfl rfl rfl rfl rfl rfl rfl⟩
    refine ⟨flushed.1, _, flushed.2, ?_⟩
    rw [resetTb_enable]
    cases full <;> rfl
  lateReset {tb p tx n u} full h := by
    obtain ⟨-, e, agree, enable⟩ := h
    refine ⟨StringUnit.blocks_resetString full ?_, rfl, fun _ => resetString_off full u⟩
    cases full
    · simp only [Bool.false_eq_true, if_false] at enable ⊢
      rw [← enable]
      exact agree.off
    · simpa using enable

theorem stringsAgree_iff (s : State) : StringsAgree s ↔ EveryUnit agreesUnit s := by
  constructor
  · rintro ⟨agree, silent⟩ n
    obtain ⟨blocks, refusing⟩ := (StringUnit.agrees_iff _ _).mp (agree n)
    exact ⟨blocks, refusing, fun hunt => silent hunt n⟩
  · intro h
    exact ⟨fun n => (StringUnit.agrees_iff _ _).mpr ⟨(h n).1, (h n).2.1⟩, fun hunt n => (h n).2.2 hunt⟩

/-- Settles O9: every block's work keeps its part of the agreement, and nothing but an envelope unit's work, in SYNC alone, makes a
string sound. -/
theorem stringBlocksAgreeKept : Obligations.StringBlocksAgreeKept := fun s t agree stepped =>
  (stringsAgree_iff t).mpr (agreesUnit_kept.stepKept.step (fun _ _ h => h) ((stringsAgree_iff s).mp agree) stepped)

end Sys2Proof.Machine
end

section
/-! Note groups: what delivering a queue leaves open, and what the note engine's work makes of it (R93, R108, R121). -/

namespace Sys2Proof.Machine

/-! ### Delivery -/

theorem deliver_append (start : Option Nat) (front back : List NoteRecord) :
    deliver start (front ++ back) = (deliver start front).bind fun channel => deliver channel back := by
  induction front generalizing start with
  | nil => rfl
  | cons record rest ih =>
    cases record with
    | strike channel note velocity stamp provisional merged =>
      cases start with
      | none => exact ih _
      | some c => rfl
    | shift channel note stamp correction merged =>
      cases start with
      | none => exact ih _
      | some c =>
        simp only [List.cons_append, deliver]
        split
        · exact ih _
        · rfl
    | lift stamp cause => cases start <;> exact ih _

theorem deliver_lift (start : Option Nat) (stamp : Index) (cause : LiftCause) : deliver start [.lift stamp cause] = some none := by
  cases start <;> rfl

/-- A merged tail delivers as the tail did (R109). -/
theorem deliver_mergedTail {note : Nat} {correction : Bool} {tail merged : NoteRecord} (e : mergedTail note correction tail = some merged)
    (start : Option Nat) : deliver start [merged] = deliver start [tail] := by
  cases tail <;> simp only [mergedTail, Option.some.injEq, reduceCtorEq] at e <;> subst e <;> cases start <;> rfl

theorem mergeQueue_delivers {note : Nat} {correction : Bool} {queue merged : List NoteRecord}
    (e : mergeQueue note correction queue = some merged) (start : Option Nat) :
    deliver start merged = deliver start queue ∧ merged.length = queue.length := by
  refine ⟨?_, length_mergeQueue e⟩
  rcases List.eq_nil_or_concat queue with rfl | ⟨front, tail, rfl⟩
  · cases e
  · rw [List.concat_eq_append, mergeQueue_append_singleton, Option.map_eq_some_iff] at e
    obtain ⟨t, moved, rfl⟩ := e
    rw [List.concat_eq_append, deliver_append, deliver_append]
    congr 1
    funext channel
    exact deliver_mergedTail moved channel

/-! ### One string's groups -/

/-- Delivering a string's queue from the channel open before it leaves a group open exactly for an announced note, which leaves room
for its LIFT and stands in no MUTED string. -/
def StringUnit.Whole (start : Option Nat) (mode : OutputMode) (u : StringUnit) : Prop :=
  deliver start u.queue = some u.context.announcedChannel ∧
    (u.context.isAnnounced = true → u.context.announcedChannel.isSome = true ∧ u.queue.length ≤ 7 ∧ mode ≠ .muted)

theorem StringUnit.grouped_iff (mode : OutputMode) (tx : TxState) (n : StringNo) (u : StringUnit) :
    u.Grouped mode tx n ↔ u.Whole (channelAfter tx n u.group) mode ∧ (strikeInFlight n tx = true → u.group = none) := by
  unfold StringUnit.Whole
  tauto

/-- A context without an announced note keeps no group open. -/
theorem Context.announcedChannel_of_not_announced {c : Context} (h : c.isAnnounced = false) : c.announcedChannel = none := by
  cases c with
  | struck note =>
    have unannounced : note.announced = false := h
    simp [announcedChannel, unannounced]
  | pending d => rfl
  | empty => rfl

section
variable {start : Option Nat} {mode : OutputMode} {u v : StringUnit}

theorem StringUnit.Whole.of_eq (h : u.Whole start mode) (queue : v.queue = u.queue)
    (channel : v.context.announcedChannel = u.context.announcedChannel) (announced : v.context.isAnnounced = u.context.isAnnounced) :
    v.Whole start mode := by
  unfold StringUnit.Whole
  rw [queue, channel, announced]
  exact h

/-- Two notes count alike for the groups: both announced or neither, in the same zone. -/
def Struck.Alike (a b : Struck) : Prop := b.announced = a.announced ∧ b.zone = a.zone

/-- A struck note replaced by one that counts alike. -/
theorem StringUnit.Whole.restruck (h : u.Whole start mode) {old note : Struck} (context : u.context = .struck old) (alike : old.Alike note)
    (queue : v.queue = u.queue) (context' : v.context = .struck note) : v.Whole start mode := by
  obtain ⟨announced, zone⟩ := alike
  refine h.of_eq queue ?_ ?_ <;> rw [context, context']
  · simp [Context.announcedChannel, announced, zone]
  · exact announced

/-- A unit that has lost no note and takes a context without an announced one. -/
theorem StringUnit.Whole.unannounced (h : u.Whole start mode) (before : u.context.isAnnounced = false) (queue : v.queue = u.queue)
    (after : v.context.isAnnounced = false) : v.Whole start mode :=
  h.of_eq queue (by rw [Context.announcedChannel_of_not_announced before, Context.announcedChannel_of_not_announced after])
    (after.trans before.symm)

/-- The group of an announced note: its channel, the room for its LIFT, and that its queue takes offers. -/
theorem StringUnit.Whole.announced (h : u.Whole start mode) (open_ : u.refusing = false) {note : Struck} (context : u.context = .struck note)
    (announced : note.announced = true) :
    deliver start u.queue = some (note.zone.map ZoneCopy.channel) ∧ note.zone.isSome = true ∧ u.queue.length ≤ 7 ∧
      u.accepts mode = true := by
  obtain ⟨delivered, rest⟩ := h
  rw [context] at delivered rest
  obtain ⟨zone, room, active⟩ := rest announced
  simp only [Context.announcedChannel, announced, if_true] at delivered zone
  refine ⟨delivered, by simpa using zone, room, ?_⟩
  cases mode <;> simp_all [StringUnit.accepts]

/-- The end of a note closes its group (R101, R108). -/
theorem StringUnit.Whole.endNote (h : u.Whole start mode) (open_ : u.refusing = false) (stamp : Index) (cause : LiftCause) :
    (endNote mode stamp cause u).Whole start mode := by
  unfold Machine.endNote
  split
  · next note context =>
    split
    · next announced =>
      obtain ⟨delivered, -, room, accepts⟩ := h.announced open_ context announced
      rcases offerLift_cases mode stamp cause u with ⟨refused | full, -⟩ | ⟨-, -, e⟩
      · rw [accepts] at refused; cases refused
      · omega
      · rw [e]
        refine ⟨?_, fun announced => by cases announced⟩
        show deliver start (u.queue ++ [.lift stamp cause]) = some none
        rw [deliver_append, delivered]
        exact deliver_lift (note.zone.map ZoneCopy.channel) stamp cause
    · next unannounced =>
      exact h.unannounced (by rw [context]; simpa [Context.isAnnounced] using unannounced) rfl rfl
  · next context => exact h.unannounced (by rw [context]; rfl) rfl rfl
  · next context => exact h.unannounced (by rw [context]; rfl) rfl rfl

theorem StringUnit.Whole.endForced (h : u.Whole start mode) (agrees : u.NoteAgrees) (open_ : u.refusing = false) (stamp : Index)
    (cause : LiftCause) : (endForced mode stamp cause u).Whole start mode := by
  unfold Machine.endForced
  split
  · exact h.endNote open_ stamp cause
  · next attack =>
    refine h.unannounced ?_ rfl rfl
    have struck := agrees.2.1
    rw [attack] at struck
    cases context : u.context with
    | struck note => rw [context] at struck; simp [Context.isStruck] at struck
    | pending d => rfl
    | empty => rfl
  all_goals exact h

theorem StringUnit.Whole.glideDecision (h : u.Whole start mode) (r : StringRecord) (stamp : Index) :
    (glideDecision r stamp u).Whole start mode := by
  unfold Machine.glideDecision
  split
  · next note q raw context pitch =>
    split
    · next z _ =>
      dsimp only
      split
      · exact h.restruck (note := { note with lastGlide := (glideValue z q note.held).1, glideTimer := r.glideInterval }) context ⟨rfl, rfl⟩ (by simp) (by simp)
      · exact h
    · exact h
  · exact h

theorem StringUnit.Whole.pressDecision (h : u.Whole start mode) (r : StringRecord) (level : Nat) (stamp : Index) :
    (pressDecision r level stamp u).Whole start mode := by
  unfold Machine.pressDecision
  split
  · next note q raw context pitch =>
    split
    · split
      · exact h.restruck (note := { note with lastPress := level, pressTimer := r.pressInterval }) context ⟨rfl, rfl⟩ (by simp) (by simp)
      · exact h
    · exact h
  · exact h

theorem StringUnit.Whole.frameMark (h : u.Whole start mode) (stamp : Index) : (frameMark stamp u).Whole start mode := by
  unfold Machine.frameMark
  split
  · next count context => exact h.unannounced (by rw [context]; rfl) rfl rfl
  · next note context =>
    exact h.restruck (note := { note with glideTimer := note.glideTimer - 1, pressTimer := note.pressTimer - 1 }) context
      ⟨rfl, rfl⟩ rfl rfl
  all_goals exact h

/-- A STRIKE announces its note exactly when its record joins the queue, which then opens its group (R90, R93, R108). -/
theorem StringUnit.Whole.strike {tb : Tables} {n : StringNo} (h : u.Whole start (tb.strings.get n).outputMode) (agrees : u.NoteAgrees)
    (period : Nat) (stamp : Index) (atLock : Bool) : (strike tb n period stamp atLock u).Whole start (tb.strings.get n).outputMode := by
  have silent : u.state = .attack → u.context.isAnnounced = false := fun attack => by
    have struck := agrees.2.1
    rw [attack] at struck
    cases context : u.context with
    | struck note => rw [context] at struck; simp [Context.isStruck] at struck
    | pending d => rfl
    | empty => rfl
  rcases strike_cases tb n period u with left | ⟨attack, unmatched⟩ | ⟨attack, z, found⟩
  · rw [strike_of_not_attack left]; exact h
  · rw [strike_of_no_zone attack unmatched]
    exact h.unannounced (silent attack) rfl rfl
  · rw [strike_of_zone attack found]
    have closed : deliver start u.queue = some none := by
      rw [h.1, Context.announcedChannel_of_not_announced (silent attack)]
    have unoffered : ∀ (w : StringUnit) (note : Struck), w.queue = u.queue → note.announced = false →
        ({ w with context := .struck note } : StringUnit).Whole start (tb.strings.get n).outputMode :=
      fun w note queue unannounced => h.unannounced (silent attack) queue unannounced
    dsimp only
    suffices struck : StringUnit.Whole start (tb.strings.get n).outputMode
        { (offerStrike (tb.strings.get n).outputMode (strikeRecord tb n z (rawNote (pitchOf tb.device period)) stamp atLock u)
            (soundingUnit tb period atLock u)).1 with
          context := .struck { newNote (rawNote (pitchOf tb.device period)) (some z.copy) (!atLock) with
            announced := (offerStrike (tb.strings.get n).outputMode (strikeRecord tb n z (rawNote (pitchOf tb.device period)) stamp atLock u)
              (soundingUnit tb period atLock u)).2 } } by
      split
      · exact struck.glideDecision _ _
      · exact struck
    rcases offerStrike_cases (tb.strings.get n).outputMode (strikeRecord tb n z (rawNote (pitchOf tb.device period)) stamp atLock u)
      (soundingUnit tb period atLock u) with ⟨-, e⟩ | ⟨accepts, room, e⟩ | ⟨-, -, e⟩ <;> rw [e]
    · exact unoffered _ _ rfl rfl
    · refine ⟨?_, fun _ => ⟨rfl, ?_, fun muted => ?_⟩⟩
      · show deliver start (u.queue ++ [strikeRecord tb n z _ stamp atLock u]) = some (some z.channel)
        rw [deliver_append, closed]
        rfl
      · have room : u.queue.length ≤ 6 := room
        show (u.queue ++ [_]).length ≤ 7
        simp only [List.length_append, List.length_singleton]
        omega
      · simp [muted, StringUnit.accepts] at accepts
    · exact unoffered _ _ rfl rfl

/-- A SHIFT of an announced note moves the open group along its channel (R94, R108, R109). -/
theorem StringUnit.Whole.offerShift (h : u.Whole start mode) (open_ : u.refusing = false) {note : Struck} (context : u.context = .struck note)
    (announced : note.announced = true) {z : ZoneCopy} (zone : note.zone = some z) (output : Nat) (stamp : Index) (correction : Bool) :
    (offerShift mode z.channel output stamp correction u).Whole start mode := by
  obtain ⟨delivered, -, room, accepts⟩ := h.announced open_ context announced
  obtain ⟨delivers, rest⟩ := h
  rw [zone] at delivered
  rcases offerShift_cases mode z.channel output stamp correction u with ⟨-, e⟩ | ⟨-, short, e⟩ | ⟨-, -, queue, merged, e⟩ | ⟨-, -, -, e⟩ <;> rw [e]
  · exact ⟨delivers, rest⟩
  · refine ⟨?_, fun a => ?_⟩
    · show deliver start (u.queue ++ [.shift z.channel output stamp correction false]) = some u.context.announcedChannel
      rw [deliver_append, delivered, ← delivers, delivered]
      exact if_pos rfl
    · obtain ⟨channel, -, active⟩ := rest a
      exact ⟨channel, by simp only [List.length_append, List.length_singleton]; omega, active⟩
  · obtain ⟨same, length⟩ := mergeQueue_delivers merged start
    refine ⟨same.trans delivers, fun a => ?_⟩
    obtain ⟨channel, room, active⟩ := rest a
    exact ⟨channel, by rw [length]; exact room, active⟩
  · exact ⟨delivers, rest⟩

theorem StringUnit.Whole.changeNote {r : StringRecord} (h : u.Whole start r.outputMode) (open_ : u.refusing = false) {old note : Struck}
    (context : u.context = .struck old) (alike : old.Alike note) (raw : Nat) (stamp : Index) (correction : Bool) :
    (changeNote r raw stamp correction note u).Whole start r.outputMode := by
  unfold Machine.changeNote
  split
  · exact h.restruck (note := { note with held := raw }) context alike rfl rfl
  · next z zone =>
    dsimp only
    have moved : ({ u with context := .struck { note with held := raw, output := some (fold (raw + z.transpose)) } } : StringUnit).Whole
        start r.outputMode :=
      h.restruck (note := { note with held := raw, output := some (fold (raw + z.transpose)) }) context alike rfl rfl
    split
    · next announced => exact moved.offerShift open_ rfl announced zone _ _ _
    · exact moved

theorem StringUnit.Whole.followRaw {r : StringRecord} (h : u.Whole start r.outputMode) (open_ : u.refusing = false) {old note : Struck}
    (context : u.context = .struck old) (alike : old.Alike note) (raw : Nat) (stamp : Index) (correction : Bool) :
    (followRaw r raw stamp correction note u).Whole start r.outputMode := by
  unfold Machine.followRaw
  refine StringUnit.Whole.glideDecision ?_ _ _
  split
  · exact h.restruck context alike rfl rfl
  · exact h.changeNote open_ context alike raw stamp correction

theorem StringUnit.Whole.lockReport {tb : Tables} {n : StringNo} (h : u.Whole start (tb.strings.get n).outputMode) (agrees : u.NoteAgrees)
    (open_ : u.refusing = false) (period : Nat) (stamp : Index) : (lockReport tb n period stamp u).Whole start (tb.strings.get n).outputMode := by
  unfold Machine.lockReport
  split
  · split
    · exact h
    · exact h.strike agrees _ _ _
    · next note context =>
      have tracked : ({ u with pitch := .tracking (pitchOf tb.device period) (rawNote (pitchOf tb.device period)) } : StringUnit).Whole start
        (tb.strings.get n).outputMode := h
      exact tracked.followRaw (note := { note with provisional := false }) open_ context ⟨rfl, rfl⟩ _ _ _
  · exact h

theorem StringUnit.Whole.takeReport {tb : Tables} {n : StringNo} (h : u.Whole start (tb.strings.get n).outputMode) (agrees : u.NoteAgrees)
    (open_ : u.refusing = false) : (takeReport tb n u).Whole start (tb.strings.get n).outputMode := by
  unfold Machine.takeReport
  split
  · exact h
  · next report stamp _ =>
    have taken : ({ u with due := { u.due with report := none } } : StringUnit).Whole start (tb.strings.get n).outputMode := h
    have agreed : ({ u with due := { u.due with report := none } } : StringUnit).NoteAgrees := agrees
    have unrefused : ({ u with due := { u.due with report := none } } : StringUnit).refusing = false := open_
    generalize ({ u with due := { u.due with report := none } } : StringUnit) = v at taken agreed unrefused
    have tracked : ∀ p, ({ v with pitch := p } : StringUnit).Whole start (tb.strings.get n).outputMode := fun _ => taken
    cases report with
    | hit period =>
      simp only [hitReport]
      split
      · exact taken
      · next note context _ =>
        split
        · exact (tracked (.tracking (pitchOf tb.device period) (rawNote (pitchOf tb.device period)))).followRaw unrefused context ⟨rfl, rfl⟩ _ _ _
        · exact (tracked (.tracking (pitchOf tb.device period) (rawNote (pitchOf tb.device period)))).glideDecision _ _
      · exact taken
    | jump period =>
      simp only [jumpReport]
      split
      · exact taken
      · next note context _ => exact (tracked (.tracking (pitchOf tb.device period) (rawNote (pitchOf tb.device period)))).followRaw unrefused context ⟨rfl, rfl⟩ _ _ _
      · exact taken
    | searchPass sum =>
      simp only [searchPassReport]
      split
      · exact taken.strike agreed _ _ _
      · exact taken

theorem StringUnit.Whole.lossReport (h : u.Whole start mode) : (lossReport u).Whole start mode := by
  unfold Machine.lossReport
  split <;> exact h

theorem StringUnit.Whole.expireDeadline {tb : Tables} {n : StringNo} (h : u.Whole start (tb.strings.get n).outputMode) (agrees : u.NoteAgrees)
    (stamp : Index) : (expireDeadline tb n stamp u).Whole start (tb.strings.get n).outputMode := by
  unfold Machine.expireDeadline
  split
  · next context =>
    split
    · exact h.strike agrees _ _ _
    · exact h.unannounced (by rw [context]; rfl) rfl rfl
  · exact h

/-- The MUTED entry leaves no group open that it does not lift (R114); any other write finds no announced note in a MUTED string. -/
theorem StringUnit.Whole.changeMode {tx : TxState} {n : StringNo} {old : OutputMode} (h : u.Whole (channelAfter tx n u.group) old)
    (new : OutputMode) (stamp : Index) :
    (changeMode old new (strikesOrShifts n tx) stamp u).Whole (channelAfter tx n u.group) new := by
  unfold Machine.changeMode mutedEntry
  split
  · have silent : u.context.unannounce.isAnnounced = false := by cases u.context <;> rfl
    have closed := Context.announcedChannel_of_not_announced silent
    dsimp only
    split
    · refine ⟨?_, fun a => ?_⟩
      · show deliver _ [.lift stamp .mute] = some u.context.unannounce.announcedChannel
        rw [closed]; exact deliver_lift _ _ _
      · have a : u.context.unannounce.isAnnounced = true := a
        rw [silent] at a; cases a
    · next nothing =>
      refine ⟨?_, fun a => ?_⟩
      · show some (channelAfter tx n u.group) = some u.context.unannounce.announcedChannel
        have ungrouped : u.group = none ∧ strikesOrShifts n tx = false := by simpa using nothing
        obtain ⟨group, unflown⟩ := ungrouped
        rw [closed, group]
        cases tx with
        | sending m =>
          cases item : m.item <;> simp_all [channelAfter, strikesOrShifts]
        | ready => rfl
        | aborting => rfl
      · have a : u.context.unannounce.isAnnounced = true := a
        rw [silent] at a; cases a
  · next kept =>
    refine ⟨h.1, fun a => ?_⟩
    obtain ⟨channel, room, active⟩ := h.2 a
    exact ⟨channel, room, fun muted => kept ⟨muted, active⟩⟩

end

end Sys2Proof.Machine
end

section
/-! Every step keeps every string's note groups whole. -/

namespace Sys2Proof.Machine

/-! ### The blocks' work on a string with whole groups -/

section
variable {start : Option Nat} {tb : Tables} {n : StringNo} {u : StringUnit} (h : u.Whole start (tb.strings.get n).outputMode)
  (agrees : u.NoteAgrees) (open_ : u.refusing = false)

/-- A silent string holds no announced note. -/
theorem StringUnit.NoteAgrees.unannounced {u : StringUnit} (agrees : u.NoteAgrees) (other : u.state ≠ .sounding) :
    u.context.isAnnounced = false := by
  cases context : u.context with
  | struck note => exact absurd (agrees.2.1.mp (by rw [context]; rfl)) other
  | pending d => rfl
  | empty => rfl

include h

theorem StringUnit.Whole.silenceIn (state : StringState) : (u.silenceIn state).Whole start (tb.strings.get n).outputMode := h

include agrees open_

theorem StringUnit.Whole.envelopeSample (y : Int) (stamp : Index) :
    (envelopeSample (tb.strings.get n) y stamp u).Whole start (tb.strings.get n).outputMode := by
  unfold Machine.envelopeSample
  generalize nextLevel (tb.strings.get n).decayShift u.env.level y = level
  dsimp only
  split
  · next idle =>
    unfold envelopeIdle
    split
    · exact h.unannounced (agrees.unannounced (by simp [idle])) rfl rfl
    · exact h
  · unfold envelopeAttack
    refine StringUnit.Whole.frameMark ?_ _
    split <;> exact h
  · unfold envelopeSounding
    dsimp only
    split
    · refine StringUnit.Whole.frameMark ?_ _
      exact h
    · split
      · refine StringUnit.Whole.unannounced (StringUnit.Whole.endNote ?_ ?_ stamp .reattack) ?_ rfl rfl
        · exact h
        · exact open_
        · simp [Context.isAnnounced]
      · refine StringUnit.Whole.pressDecision (StringUnit.Whole.frameMark ?_ _) _ _ _
        exact h
  · exact h
  all_goals exact h

theorem StringUnit.Whole.takeLock : (takeLock tb n u).Whole start (tb.strings.get n).outputMode := by
  unfold Machine.takeLock
  split
  · exact h
  · refine StringUnit.Whole.lockReport ?_ ?_ ?_ _ _
    · exact h
    · exact agrees
    · exact open_

theorem StringUnit.Whole.enterFault (cause : Cause) (stamp : Index) :
    (enterFault (tb.strings.get n) cause stamp u).Whole start (tb.strings.get n).outputMode := by
  have ended := h.endForced agrees open_ stamp .fault
  exact ended

theorem StringUnit.Whole.unitEvent (e : Event) : (unitEvent tb n e u).Whole start (tb.strings.get n).outputMode := by
  cases e with
  | report => exact h.takeReport agrees open_
  | release =>
    simp only [Machine.unitEvent, takeRelease]
    split
    · exact h
    · next stamp _ =>
      have taken : ({ u with due := { u.due with release := none } } : StringUnit).Whole start (tb.strings.get n).outputMode := h
      split
      · next attack => exact h.unannounced (agrees.unannounced (by simp only [attack]; simp)) rfl rfl
      · have ended := taken.endNote open_ stamp .release
        exact ended
      all_goals exact taken
  | strikeDeadlineExpiry =>
    simp only [Machine.unitEvent, takeExpiry]
    split
    · exact h
    · have locked := h.takeLock agrees open_
      have agreed : (Machine.takeLock tb n u).NoteAgrees := by
        unfold Machine.takeLock
        split
        · exact agrees
        · refine StringUnit.NoteAgrees.lockReport ?_ _ _ _ _
          exact agrees
      refine StringUnit.Whole.expireDeadline ?_ ?_ _
      · exact locked
      · exact agreed
  | dampExit =>
    simp only [Machine.unitEvent, takeDampExit]
    split
    · split <;> exact h
    · exact h
  | staleCrossing =>
    simp only [Machine.unitEvent, takeStale]
    split
    · exact h
    · next stamp _ =>
      obtain ⟨due, e⟩ := takeOutcome_eq stamp u.tracker.takeStale.2 { u with tracker := u.tracker.takeStale.1, due := { u.due with stale := none } }
      rw [e]
      exact h
  | lockLoss =>
    simp only [Machine.unitEvent, takeLockLoss]
    split
    · exact h
    · refine StringUnit.Whole.lossReport ?_
      exact h
  | lock => exact h.takeLock agrees open_
  | faultEntry =>
    simp only [Machine.unitEvent, faultEntryUnit]
    split
    · exact h
    · have taken : ({ u with due := { u.due with fault := none } } : StringUnit).Whole start (tb.strings.get n).outputMode := h
      split
      · exact taken.enterFault agrees open_ _ _
      · exact taken.enterFault agrees open_ _ _
      · exact taken.enterFault agrees open_ _ _
      · exact taken.enterFault agrees open_ _ _
      all_goals exact taken
  | faultWaitEnd =>
    simp only [Machine.unitEvent, takeWaitEnd]
    split
    · split <;> exact h
    · exact h
  | recovery =>
    simp only [Machine.unitEvent, recoveryUnit]
    split
    · split <;> exact h
    · exact h

theorem StringUnit.Whole.huntString (stamp : Index) : (huntString (tb.strings.get n) stamp u).Whole start (tb.strings.get n).outputMode := by
  have ended := h.endForced agrees open_ stamp .link
  unfold Machine.huntString
  dsimp only
  split
  · exact ended
  · exact ended
  · exact ended
  · exact ended
  all_goals exact h

theorem StringUnit.Whole.dampString (stamp : Index) :
    (dampString (tb.strings.get n) stamp u).1.Whole start (tb.strings.get n).outputMode := by
  unfold Machine.dampString
  split
  · have ended := h.endNote open_ stamp .forced
    exact ended
  · next attack => exact h.unannounced (agrees.unannounced (by simp [attack])) rfl rfl
  all_goals exact h

omit agrees open_ in
theorem StringUnit.Whole.trackerSample (y : Int) (stamp : Index) :
    (trackerSample tb n y stamp u).Whole start (tb.strings.get n).outputMode := by
  unfold Machine.trackerSample
  split
  · exact h
  · dsimp only
    obtain ⟨due, e⟩ := takeOutcome_eq stamp (trackSample (tb.strings.get n) u.env.level y u.tracker).2
      { u with tracker := (trackSample (tb.strings.get n) u.env.level y u.tracker).1 }
    rw [e]
    exact h

omit agrees open_ in
theorem StringUnit.Whole.monitorSample (x : Int) (flag : Bool) (stamp : Index) :
    (monitorSample (tb.strings.get n) x flag stamp u).Whole start (tb.strings.get n).outputMode := by
  unfold Machine.monitorSample countWait judgeTest
  dsimp only
  split
  all_goals first
    | exact h
    | (split <;> exact h)

end

theorem StringUnit.Whole.changeEnable {start : Option Nat} {mode : OutputMode} {u : StringUnit} (h : u.Whole start mode) (agrees : u.NoteAgrees)
    (open_ : u.refusing = false) (old new : Bool) (stamp : Index) : (changeEnable old new mode stamp u).Whole start mode := by
  have ended := h.endForced agrees open_ stamp .disabled
  unfold Machine.changeEnable
  split
  · exact h
  · split
    · split <;> exact h
    · exact ended

/-! ### A queue that refuses stands (R127) -/

section
variable {mode : OutputMode} {u : StringUnit} (refusing : u.refusing = true)
include refusing

theorem StringUnit.not_accepts : u.accepts mode = false := by simp [StringUnit.accepts, refusing]

theorem queue_offerStrike (record : NoteRecord) : (offerStrike mode record u).1.queue = u.queue := by
  rw [offerStrike, if_pos (u.not_accepts refusing)]

theorem queue_offerShift (channel note : Nat) (stamp : Index) (correction : Bool) :
    (offerShift mode channel note stamp correction u).queue = u.queue := by
  rw [offerShift, if_pos (u.not_accepts refusing)]

theorem queue_endNote (stamp : Index) (cause : LiftCause) : (endNote mode stamp cause u).queue = u.queue := by
  unfold endNote
  split
  · split
    · show (offerLift mode stamp cause u).queue = u.queue
      rw [offerLift, if_pos (u.not_accepts refusing)]
    · rfl
  all_goals rfl

theorem queue_endForced (stamp : Index) (cause : LiftCause) : (endForced mode stamp cause u).queue = u.queue := by
  unfold endForced
  split
  · exact queue_endNote refusing stamp cause
  all_goals rfl

theorem queue_strike (tb : Tables) (n : StringNo) (period : Nat) (stamp : Index) (atLock : Bool) :
    (strike tb n period stamp atLock u).queue = u.queue := by
  rcases strike_cases tb n period u with left | ⟨attack, unmatched⟩ | ⟨attack, z, found⟩
  · rw [strike_of_not_attack left]
  · rw [strike_of_no_zone attack unmatched]; rfl
  · rw [strike_of_zone attack found]
    have offered := queue_offerStrike (mode := (tb.strings.get n).outputMode) (u := soundingUnit tb period atLock u) refusing
      (strikeRecord tb n z (rawNote (pitchOf tb.device period)) stamp atLock u)
    dsimp only
    split
    · rw [glideDecision_queue]; exact offered
    · exact offered

theorem queue_followRaw (r : StringRecord) (raw : Nat) (stamp : Index) (correction : Bool) (note : Struck) :
    (followRaw r raw stamp correction note u).queue = u.queue := by
  unfold followRaw changeNote
  rw [glideDecision_queue]
  split
  · rfl
  · split
    · rfl
    · dsimp only
      split
      · refine queue_offerShift ?_ _ _ _ _
        exact refusing
      · rfl

theorem queue_lockReport (tb : Tables) (n : StringNo) (period : Nat) (stamp : Index) : (lockReport tb n period stamp u).queue = u.queue := by
  unfold lockReport
  split
  · split
    · rfl
    · exact queue_strike refusing _ _ _ _ _
    · dsimp only
      refine queue_followRaw ?_ _ _ _ _ _
      exact refusing
  · rfl

theorem queue_takeReport (tb : Tables) (n : StringNo) : (takeReport tb n u).queue = u.queue := by
  unfold takeReport hitReport jumpReport searchPassReport
  split
  · rfl
  · dsimp only
    split
    · split
      · rfl
      · split
        · refine queue_followRaw ?_ _ _ _ _ _
          exact refusing
        · exact glideDecision_queue _ _ _
      · rfl
    · split
      · rfl
      · refine queue_followRaw ?_ _ _ _ _ _
        exact refusing
      · rfl
    · split
      · refine queue_strike ?_ _ _ _ _ _
        exact refusing
      · rfl

theorem queue_takeLock (tb : Tables) (n : StringNo) : (takeLock tb n u).queue = u.queue := by
  unfold takeLock
  split
  · rfl
  · refine queue_lockReport ?_ _ _ _ _
    exact refusing

theorem queue_unitEvent (tb : Tables) (n : StringNo) (e : Event) : (unitEvent tb n e u).queue = u.queue := by
  cases e with
  | report => exact queue_takeReport refusing tb n
  | release =>
    simp only [unitEvent, takeRelease]
    split
    · rfl
    · split
      · rfl
      · refine queue_endNote ?_ _ _
        exact refusing
      all_goals rfl
  | strikeDeadlineExpiry =>
    simp only [unitEvent, takeExpiry, expireDeadline]
    split
    · rfl
    · have locked := queue_takeLock refusing tb n
      have refuses : (takeLock tb n u).refusing = true := (calm_takeLock u tb n).2.trans refusing
      generalize takeLock tb n u = v at locked refuses
      rw [← locked]
      split
      · split
        · refine queue_strike ?_ _ _ _ _ _
          exact refuses
        · rfl
      · rfl
  | dampExit => simp only [unitEvent, takeDampExit]; split <;> (try split) <;> rfl
  | staleCrossing =>
    simp only [unitEvent, takeStale]
    split
    · rfl
    · next stamp _ =>
      obtain ⟨due, e⟩ := takeOutcome_eq stamp u.tracker.takeStale.2 { u with tracker := u.tracker.takeStale.1, due := { u.due with stale := none } }
      rw [e]
  | lockLoss =>
    simp only [unitEvent, takeLockLoss, lossReport]
    split
    · rfl
    · split <;> rfl
  | lock => exact queue_takeLock refusing tb n
  | faultEntry =>
    simp only [unitEvent, faultEntryUnit, enterFault]
    split
    · rfl
    · have ended : ∀ (mode : OutputMode) stamp cause, (endForced mode stamp cause { u with due := { u.due with fault := none } }).queue = u.queue :=
        fun mode stamp cause => queue_endForced (mode := mode) (u := { u with due := { u.due with fault := none } }) refusing stamp cause
      split
      · exact ended _ _ _
      · exact ended _ _ _
      · exact ended _ _ _
      · exact ended _ _ _
      all_goals rfl
  | faultWaitEnd => simp only [unitEvent, takeWaitEnd]; split <;> (try split) <;> rfl
  | recovery => simp only [unitEvent, recoveryUnit]; split <;> (try split) <;> rfl

theorem queue_huntString (r : StringRecord) (stamp : Index) : (huntString r stamp u).queue = u.queue := by
  have ended := queue_endForced (mode := r.outputMode) refusing stamp .link
  unfold huntString
  dsimp only
  split
  · exact ended
  · exact ended
  · exact ended
  · exact ended
  all_goals rfl

theorem queue_envelopeSample (r : StringRecord) (y : Int) (stamp : Index) : (envelopeSample r y stamp u).queue = u.queue := by
  have marked : ∀ v : StringUnit, (frameMark stamp v).queue = v.queue := fun v => by unfold frameMark; split <;> rfl
  unfold envelopeSample
  generalize nextLevel r.decayShift u.env.level y = level
  dsimp only
  split
  · unfold envelopeIdle; split <;> rfl
  · unfold envelopeAttack
    rw [marked]
    split <;> rfl
  · unfold envelopeSounding
    dsimp only
    split
    · rw [marked]; rfl
    · split
      · refine queue_endNote ?_ _ _
        exact refusing
      · rw [pressDecision_queue, marked]
  all_goals rfl

end

/-! ### What stands beside the queue: the group -/

theorem group_trackerSample (u : StringUnit) (tb : Tables) (n : StringNo) (y : Int) (stamp : Index) :
    (trackerSample tb n y stamp u).group = u.group ∧ (trackerSample tb n y stamp u).queue = u.queue := by
  unfold trackerSample
  split
  · exact ⟨rfl, rfl⟩
  · dsimp only
    obtain ⟨due, e⟩ := takeOutcome_eq stamp (trackSample (tb.strings.get n) u.env.level y u.tracker).2
      { u with tracker := (trackSample (tb.strings.get n) u.env.level y u.tracker).1 }
    rw [e]
    exact ⟨rfl, rfl⟩

theorem group_monitorSample (u : StringUnit) (r : StringRecord) (x : Int) (flag : Bool) (stamp : Index) :
    (monitorSample r x flag stamp u).group = u.group ∧ (monitorSample r x flag stamp u).queue = u.queue := by
  unfold monitorSample countWait judgeTest
  dsimp only
  split
  all_goals first
    | exact ⟨rfl, rfl⟩
    | (split <;> exact ⟨rfl, rfl⟩)

theorem group_envelopeSample (u : StringUnit) (r : StringRecord) (y : Int) (stamp : Index) : (envelopeSample r y stamp u).group = u.group := by
  unfold envelopeSample
  dsimp only
  split
  · unfold envelopeIdle; split <;> rfl
  · unfold envelopeAttack
    refine (NoteWork.frameMark _ _).group.trans ?_
    split <;> rfl
  · unfold envelopeSounding
    dsimp only
    split
    · exact (NoteWork.frameMark _ _).group
    · split
      · exact endNote_group _ _ _ _
      · exact ((NoteWork.frameMark _ _).trans (NoteWork.pressDecision _ _ _ _)).group
  all_goals rfl

theorem group_takeLock (u : StringUnit) (tb : Tables) (n : StringNo) : (takeLock tb n u).group = u.group := by
  unfold takeLock
  split
  · rfl
  · exact (NoteWork.lockReport _ _ _ _ _).group

theorem group_unitEvent (u : StringUnit) (tb : Tables) (n : StringNo) (e : Event) : (unitEvent tb n e u).group = u.group := by
  cases e with
  | report => exact (NoteWork.takeReport tb n u).group
  | release =>
    simp only [unitEvent, takeRelease]
    split
    · rfl
    · split
      · rfl
      · exact endNote_group _ _ _ _
      all_goals rfl
  | strikeDeadlineExpiry =>
    simp only [unitEvent, takeExpiry]
    split
    · rfl
    · exact (NoteWork.expireDeadline _ _ _ _).group.trans (group_takeLock u tb n)
  | dampExit => simp only [unitEvent, takeDampExit]; split <;> (try split) <;> rfl
  | staleCrossing =>
    simp only [unitEvent, takeStale]
    split
    · rfl
    · next stamp _ =>
      obtain ⟨due, e⟩ := takeOutcome_eq stamp u.tracker.takeStale.2 { u with tracker := u.tracker.takeStale.1, due := { u.due with stale := none } }
      rw [e]
  | lockLoss =>
    simp only [unitEvent, takeLockLoss]
    split
    · rfl
    · exact (NoteWork.lossReport _).group
  | lock => exact group_takeLock u tb n
  | faultEntry =>
    simp only [unitEvent, faultEntryUnit, enterFault]
    split
    · rfl
    · have ended : ∀ (mode : OutputMode) stamp cause, (endForced mode stamp cause { u with due := { u.due with fault := none } }).group = u.group :=
        fun _ _ _ => endForced_group _ _ _ _
      split
      · exact ended _ _ _
      · exact ended _ _ _
      · exact ended _ _ _
      · exact ended _ _ _
      all_goals rfl
  | faultWaitEnd => simp only [unitEvent, takeWaitEnd]; split <;> (try split) <;> rfl
  | recovery => simp only [unitEvent, recoveryUnit]; split <;> (try split) <;> rfl

theorem group_huntString (u : StringUnit) (r : StringRecord) (stamp : Index) : (huntString r stamp u).group = u.group := by
  have ended := endForced_group r.outputMode stamp .link u
  unfold huntString
  dsimp only
  split
  · exact ended
  · exact ended
  · exact ended
  · exact ended
  all_goals rfl

theorem group_dampString (u : StringUnit) (r : StringRecord) (stamp : Index) : (dampString r stamp u).1.group = u.group := by
  have ended := endNote_group r.outputMode stamp .forced u
  unfold dampString
  split
  · exact ended
  all_goals rfl

theorem group_changeEnable (u : StringUnit) (old new : Bool) (mode : OutputMode) (stamp : Index) :
    (changeEnable old new mode stamp u).group = u.group := by
  have ended := endForced_group mode stamp .disabled u
  unfold changeEnable
  split
  · rfl
  · split
    · split <;> rfl
    · exact ended

end Sys2Proof.Machine
end

section
/-! Note groups as an invariant of every step, through sending, writes and resets (R108, R121, R124, R126, R127). -/

namespace Sys2Proof.Machine

/-- The blocks of a string agree and its groups are whole. -/
def groupsUnit : UnitPred := fun tb p tx n u => agreesUnit tb p tx n u ∧ u.Grouped (tb.strings.get n).outputMode tx n

/-- A late string's queue delivers nothing but the end of its open group, and takes no offer. -/
def lateGroups (full : Bool) : UnitPred := fun tb p tx n u =>
  lateAgrees full tb p tx n u ∧ deliver (channelAfter tx n u.group) u.queue = some none ∧ (strikeInFlight n tx = true → u.group = none)

section
variable {tb : Tables} {p : SyncState} {tx : TxState} {n : StringNo} {u v : StringUnit}

theorem groupsUnit_of (h : groupsUnit tb p tx n u) {p' : SyncState} (agree : agreesUnit tb p' tx n v) (group : v.group = u.group)
    (whole : u.NoteAgrees → u.refusing = false → u.Whole (channelAfter tx n u.group) (tb.strings.get n).outputMode →
      v.Whole (channelAfter tx n u.group) (tb.strings.get n).outputMode) : groupsUnit tb p' tx n v := by
  obtain ⟨⟨blocks, refusing, -⟩, grouped⟩ := h
  obtain ⟨before, flown⟩ := (StringUnit.grouped_iff _ _ _ _).mp grouped
  refine ⟨agree, (StringUnit.grouped_iff _ _ _ _).mpr ?_⟩
  rw [group]
  exact ⟨whole blocks.noteAgrees refusing before, flown⟩

theorem lateGroups_of {full : Bool} (h : lateGroups full tb p tx n u) {p' : SyncState} (late : lateAgrees full tb p' tx n v)
    (group : v.group = u.group) (queue : u.refusing = true → v.queue = u.queue) : lateGroups full tb p' tx n v := by
  obtain ⟨agree, delivers, flown⟩ := h
  refine ⟨late, ?_, ?_⟩
  · rw [group, queue agree.1]; exact delivers
  · rw [group]; exact flown

end

theorem groupsUnit_frameKept : UnitFrameKept groupsUnit where
  envelope y index h := groupsUnit_of h (agreesUnit_frameKept.envelope y index h.1) (group_envelopeSample _ _ y index)
    fun agrees refusing whole => whole.envelopeSample agrees refusing y index
  tracker y index h := groupsUnit_of h (agreesUnit_frameKept.tracker y index h.1) (group_trackerSample _ _ _ y index).1
    fun _ _ whole => whole.trackerSample y index
  monitor x flag index h := groupsUnit_of h (agreesUnit_frameKept.monitor x flag index h.1) (group_monitorSample _ _ x flag index).1
    fun _ _ whole => whole.monitorSample x flag index
  event e h := groupsUnit_of h (agreesUnit_frameKept.event e h.1) (group_unitEvent _ _ _ e)
    fun agrees refusing whole => whole.unitEvent agrees refusing e
  hunt index h := groupsUnit_of h (agreesUnit_frameKept.hunt index h.1) (group_huntString _ _ index)
    fun agrees refusing whole => whole.huntString agrees refusing index
  sync h := groupsUnit_of h (agreesUnit_frameKept.sync h.1) rfl fun _ _ whole => whole
  dropped h := groupsUnit_of h (agreesUnit_frameKept.dropped h.1) rfl fun _ _ whole => whole

theorem lateGroups_frameKept (full : Bool) : UnitFrameKept (lateGroups full) where
  envelope y index h := lateGroups_of h ((lateAgrees_frameKept full).envelope y index h.1) (group_envelopeSample _ _ y index)
    fun refusing => queue_envelopeSample refusing _ y index
  tracker y index h := lateGroups_of h ((lateAgrees_frameKept full).tracker y index h.1) (group_trackerSample _ _ _ y index).1
    fun _ => (group_trackerSample _ _ _ y index).2
  monitor x flag index h := lateGroups_of h ((lateAgrees_frameKept full).monitor x flag index h.1) (group_monitorSample _ _ x flag index).1
    fun _ => (group_monitorSample _ _ x flag index).2
  event e h := lateGroups_of h ((lateAgrees_frameKept full).event e h.1) (group_unitEvent _ _ _ e)
    fun refusing => queue_unitEvent refusing _ _ e
  hunt index h := lateGroups_of h ((lateAgrees_frameKept full).hunt index h.1) (group_huntString _ _ index)
    fun refusing => queue_huntString refusing _ index
  sync h := h
  dropped h := lateGroups_of h ((lateAgrees_frameKept full).dropped h.1) rfl fun _ => rfl

/-! ### Sending -/

/-- At a completion the group becomes what it was to become (R124). -/
theorem channelAfter_completed (m : InFlight) (n : StringNo) (u : StringUnit) :
    channelAfter .ready n (completeUnit m.item n u).group = channelAfter (.sending m) n u.group := by
  obtain ⟨item, bytes, position⟩ := m
  cases item with
  | strike n' channel note =>
    by_cases same : n = n'
    · simp [channelAfter, completeUnit, same]
    · simp [channelAfter, completeUnit, same, Ne.symm same]
  | shift n' note =>
    by_cases same : n = n'
    · simp only [channelAfter, completeUnit, if_pos same]; cases u.group <;> rfl
    · simp [channelAfter, completeUnit, same]
  | lift n' =>
    by_cases same : n = n'
    · simp [channelAfter, completeUnit, same]
    · simp [channelAfter, completeUnit, same, Ne.symm same]
  | other => rfl

/-- A completion writes the group alone. -/
theorem completeUnit_eq (item : TxItem) (n : StringNo) (u : StringUnit) : ∃ group, completeUnit item n u = { u with group := group } := by
  cases item <;> simp only [completeUnit]
  · split
    · exact ⟨_, rfl⟩
    · exact ⟨u.group, rfl⟩
  · split
    · exact ⟨_, rfl⟩
    · exact ⟨u.group, rfl⟩
  · split
    · exact ⟨none, rfl⟩
    · exact ⟨u.group, rfl⟩
  · exact ⟨u.group, rfl⟩

/-- The head of a whole queue, sent, leaves the rest whole: a STRIKE finds no group open, a SHIFT without one is discarded (R121). -/
theorem deliver_taken {device : DeviceRecord} {n : StringNo} {group : Option Group} {record : NoteRecord} {rest : List NoteRecord}
    {out : Option Nat} (h : deliver (channelAfter .ready n group) (record :: rest) = some out) :
    deliver (channelAfter (takenTx (noteMessage device n group record)) n group) rest = some out ∧
      (strikeInFlight n (takenTx (noteMessage device n group record)) = true → group = none) := by
  cases record with
  | strike channel note velocity stamp provisional merged =>
    cases group with
    | none =>
      refine ⟨?_, fun _ => rfl⟩
      show deliver (if n = n then some channel else none) rest = some out
      rw [if_pos rfl]
      exact h
    | some g => cases h
  | shift channel note stamp correction merged =>
    cases group with
    | none => exact ⟨h, fun flown => by cases flown⟩
    | some g =>
      refine ⟨?_, fun flown => by cases flown⟩
      have h : (if g.channel = channel then deliver (some g.channel) rest else none) = some out := h
      split at h
      · exact h
      · cases h
  | lift stamp cause =>
    cases group with
    | none => exact ⟨h, fun flown => by cases flown⟩
    | some g =>
      refine ⟨?_, fun flown => by cases flown⟩
      show deliver (if n = n then none else some g.channel) rest = some out
      rw [if_pos rfl]
      exact h

/-- A message of another string touches no group of this one. -/
theorem channelAfter_other {device : DeviceRecord} {n m : StringNo} (other : n ≠ m) (taken : Option Group) (record : NoteRecord)
    (group : Option Group) :
    channelAfter (takenTx (noteMessage device m taken record)) n group = group.map Group.channel ∧
      strikeInFlight n (takenTx (noteMessage device m taken record)) = false := by
  cases record <;> cases taken <;>
    simp [noteMessage, takenTx, channelAfter, strikeInFlight, InFlight.start, Ne.symm other]

/-! ### Resets -/

theorem channelAfter_cut (tx : TxState) (n : StringNo) (group : Option Group) :
    channelAfter (cutTx tx) n group = group.map Group.channel ∧ strikeInFlight n (cutTx tx) = false := by
  cases tx <;> exact ⟨rfl, rfl⟩

/-- A flushed queue delivers the LIFT of an open group, or nothing (R127). -/
theorem deliver_resetQueue (index : Index) (u : StringUnit) :
    deliver (u.group.map Group.channel) (resetQueue index u).queue = some none ∧ (resetQueue index u).group = u.group := by
  unfold resetQueue
  dsimp only
  cases group : u.group with
  | none =>
    rw [if_neg (by simp [group])]
    exact ⟨rfl, group⟩
  | some g =>
    rw [if_pos (by simp [group])]
    exact ⟨rfl, group⟩

theorem groupsUnit_kept : UnitKept groupsUnit lateGroups where
  toUnitFrameKept := groupsUnit_frameKept
  powerOn n := ⟨agreesUnit_kept.powerOn n, rfl, fun _ => rfl, fun a => by cases a⟩
  device bytes h := ⟨agreesUnit_kept.device bytes h.1, h.2⟩
  row m bytes h := ⟨agreesUnit_kept.row m bytes h.1, h.2⟩
  zone i mode bytes h := ⟨agreesUnit_kept.zone i mode bytes h.1, h.2⟩
  curve i bytes h := ⟨agreesUnit_kept.curve i bytes h.1, h.2⟩
  written {tb p tx n u} r index formed h := by
    refine ⟨agreesUnit_kept.written r index formed h.1, (StringUnit.grouped_iff _ _ _ _).mpr ?_⟩
    obtain ⟨⟨blocks, refusing, -⟩, grouped⟩ := h
    obtain ⟨whole, flown⟩ := (StringUnit.grouped_iff _ _ _ _).mp grouped
    have moded := whole.changeMode r.outputMode index
    have work := NoteWork.changeMode (tb.strings.get n).outputMode r.outputMode (strikesOrShifts n tx) index u
    have enabled := moded.changeEnable (blocks.changeMode _ _ _ _).noteAgrees (work.refusing.trans refusing) (tb.strings.get n).enable r.enable index
    rw [group_changeEnable, work.group]
    exact ⟨by simpa using enabled, flown⟩
  writtenOther {tb p tx n u} m r other formed h := by
    refine ⟨agreesUnit_kept.writtenOther m r other formed h.1, ?_⟩
    dsimp only
    rw [Six.get_set_of_ne _ _ other]
    exact h.2
  recovered faulted h := groupsUnit_of h (agreesUnit_kept.recovered faulted h.1) rfl fun _ _ whole => whole
  damped index h := groupsUnit_of h (agreesUnit_kept.damped index h.1) (group_dampString _ _ index)
    fun agrees refusing whole => whole.dampString agrees refusing index
  cleared h := groupsUnit_of h (agreesUnit_kept.cleared h.1) rfl fun _ _ whole => whole
  completed {tb p m n u} h := by
    refine ⟨agreesUnit_kept.completed h.1, (StringUnit.grouped_iff _ _ _ _).mpr ⟨?_, fun flown => by cases flown⟩⟩
    obtain ⟨whole, -⟩ := (StringUnit.grouped_iff _ _ _ _).mp h.2
    obtain ⟨group, e⟩ := completeUnit_eq m.item n u
    rw [channelAfter_completed, e]
    exact whole
  moved position h := ⟨agreesUnit_kept.moved position h.1, h.2⟩
  aborted h := ⟨agreesUnit_kept.aborted h.1, h.2.1, fun flown => (by cases flown), h.2.2.2⟩
  sentOther bytes h := ⟨agreesUnit_kept.sentOther bytes h.1, h.2.1, fun flown => (by cases flown), h.2.2.2⟩
  noGlide h := groupsUnit_of h (agreesUnit_kept.noGlide h.1) rfl fun _ _ whole => whole
  noPress h := groupsUnit_of h (agreesUnit_kept.noPress h.1) rfl fun _ _ whole => whole
  taken {tb p n u record rest} queue h := by
    refine ⟨agreesUnit_kept.taken queue h.1, ?_⟩
    obtain ⟨delivered, -, announced⟩ := h.2
    rw [queue] at delivered announced
    obtain ⟨delivers, flown⟩ := deliver_taken (device := tb.device) delivered
    refine ⟨delivers, flown, fun a => ?_⟩
    obtain ⟨channel, room, active⟩ := announced a
    exact ⟨channel, by simp only [List.length_cons] at room; show rest.length ≤ 7; omega, active⟩
  takenOther {tb p n u record rest} m v other queue hv h := by
    refine ⟨agreesUnit_kept.takenOther m v other queue hv.1 h.1, ?_⟩
    obtain ⟨channel, flown⟩ := channelAfter_other (device := tb.device) other v.group record u.group
    obtain ⟨delivered, -, announced⟩ := h.2
    exact ⟨by rw [channel]; exact delivered, by rw [flown]; simp, announced⟩
  reset {tb p tx n u} full index h := by
    refine ⟨agreesUnit_kept.reset full index h.1, ?_⟩
    obtain ⟨channel, flown⟩ := channelAfter_cut tx n u.group
    obtain ⟨delivers, group⟩ := deliver_resetQueue index u
    have kept : ∀ v : StringUnit, v.group = u.group → v.queue = (resetQueue index u).queue → v.context = .empty →
        v.Grouped ((resetTb full tb).strings.get n).outputMode (cutTx tx) n := by
      intro v sameGroup queue context
      refine ⟨?_, by rw [flown]; simp, ?_⟩
      · rw [sameGroup, channel, queue, context]; exact delivers
      · rw [context]; intro a; cases a
    cases full <;> exact kept _ group rfl rfl
  lateFrame := lateGroups_frameKept
  late {tb p tx n u} full index h := by
    refine ⟨agreesUnit_kept.late full index h.1, ?_⟩
    obtain ⟨channel, flown⟩ := channelAfter_cut tx n u.group
    obtain ⟨delivers, group⟩ := deliver_resetQueue index u
    have sameGroup : (lateUnit full index u).group = u.group := by cases full <;> exact group
    have queue : (lateUnit full index u).queue = (resetQueue index u).queue := by cases full <;> rfl
    rw [sameGroup, channel, queue, flown]
    exact ⟨delivers, by simp⟩
  lateReset full h := ⟨agreesUnit_kept.lateReset full h.1, h.2.1, h.2.2, fun a => by cases a⟩

/-- Settles O10: what is in flight and queued always delivers to the group of the announced note. -/
theorem noteGroupsKeptWhole : Obligations.NoteGroupsKeptWhole := by
  intro s t agree whole stepped
  have agreed := (stringsAgree_iff s).mp agree
  have kept := groupsUnit_kept.stepKept.step (fun _ _ h => h) (s := s) (t := t) (fun n => ⟨agreed n, whole n⟩) stepped
  exact fun n => (kept n).2

end Sys2Proof.Machine
end

section
/-! Every queue, history and counter of one string stays within its capacity (R15, R37, R48, R107, R131, R185). -/

namespace Sys2Proof.Machine

/-! ### The parts of a string's capacities -/

/-- The capacities and moduli of a tracker (R37, R48). -/
structure Tracker.Bounded (t : Tracker) : Prop where
  history : t.history.length ≤ 8
  stale : t.stale ≤ 4096
  misses : t.misses ≤ 3
  passes : ∀ k, (t.candidates.get k).passes ≤ 255
  samples : t.samples ≤ 1048575
  zero : ∀ i ∈ t.zero, i.ticks ≤ 16777215
  ref : ∀ i ∈ t.ref, i.ticks ≤ 16777215

/-- The levels are samples' magnitudes (R15). -/
def Envelope.Bounded (v : Envelope) : Prop := v.level ≤ levelMax ∧ v.peak ≤ levelMax ∧ v.valley ≤ levelMax

/-- The runs and the retries saturate (R131). -/
def Monitor.Bounded (m : Monitor) : Prop := m.clipRun ≤ 255 ∧ m.stuckRun ≤ 65535 ∧ m.retries ≤ 255

/-- The capacities of a string, block by block. -/
structure StringUnit.Capacities (u : StringUnit) : Prop where
  counters : u.counters.Saturated
  queue : u.queue.length ≤ 8
  env : u.env.Bounded
  tracker : u.tracker.Bounded
  monitor : u.monitor.Bounded

theorem StringUnit.bounded_iff (u : StringUnit) : u.Bounded ↔ u.Capacities := by
  constructor
  · rintro ⟨counters, queue, level, peak, valley, history, stale, misses, c1, c2, c3, c4, clip, stuck, retries, samples, zero, ref⟩
    exact ⟨counters, queue, ⟨level, peak, valley⟩,
      ⟨history, stale, misses, fun k => by cases k <;> assumption, samples, zero, ref⟩, clip, stuck, retries⟩
  · rintro ⟨counters, queue, ⟨level, peak, valley⟩, ⟨history, stale, misses, passes, samples, zero, ref⟩, clip, stuck, retries⟩
    exact ⟨counters, queue, level, peak, valley, history, stale, misses, passes .k1, passes .k2, passes .k3, passes .k4, clip, stuck,
      retries, samples, zero, ref⟩

/-! ### Trackers -/

theorem Instant.of_ticks_le (exact : Nat) : (Instant.of exact).ticks ≤ 16777215 := by
  show exact % 16777216 ≤ 16777215
  omega

theorem Candidates.revived_passes (k : CandidateNo) : (Candidates.revived.get k).passes ≤ 255 := by cases k <;> decide

theorem testCandidate_passes (tol : Nat) (history : List Nat) (k : Nat) {c : Candidate} (h : c.passes ≤ 255) :
    (testCandidate tol history k c).passes ≤ 255 := by
  unfold testCandidate
  split
  · split
    · exact Nat.min_le_left _ _
    · exact h
  · exact h

theorem Tracker.fresh_bounded (run : RunState) : (Tracker.fresh run).Bounded :=
  ⟨by simp [fresh], by simp [fresh], by simp [fresh], Candidates.revived_passes, by simp [fresh], by simp [fresh], by simp [fresh]⟩

section
variable {t : Tracker} (h : t.Bounded)
include h

/-- The lock items, the run state and the detector do not count. -/
theorem Tracker.Bounded.of_eq {v : Tracker} (history : v.history.length ≤ t.history.length) (stale : v.stale ≤ t.stale) (misses : v.misses ≤ t.misses)
    (candidates : v.candidates = t.candidates) (samples : v.samples = t.samples) (zero : v.zero = t.zero) (ref : v.ref = t.ref) : v.Bounded := by
  refine ⟨history.trans h.history, stale.trans h.stale, misses.trans h.misses, ?_, ?_, ?_, ?_⟩
  · rw [candidates]; exact h.passes
  · rw [samples]; exact h.samples
  · rw [zero]; exact h.zero
  · rw [ref]; exact h.ref

theorem Tracker.Bounded.withHistory {history : List Nat} (short : history.length ≤ 8) : Tracker.Bounded { t with history := history } :=
  ⟨short, h.stale, h.misses, h.passes, h.samples, h.zero, h.ref⟩

theorem Tracker.Bounded.withMisses {misses : Nat} (few : misses ≤ 3) (jump period : Option Nat) :
    Tracker.Bounded { t with misses := misses, jump := jump, period := period } :=
  ⟨h.history, h.stale, few, h.passes, h.samples, h.zero, h.ref⟩

theorem Tracker.Bounded.withCandidates {c : Candidates} (passes : ∀ k, (c.get k).passes ≤ 255) {history : List Nat} (short : history.length ≤ 8)
    (decided : Bool) : Tracker.Bounded { t with candidates := c, history := history, decided := decided } :=
  ⟨short, h.stale, h.misses, passes, h.samples, h.zero, h.ref⟩

theorem Tracker.Bounded.withSample {samples : Nat} (few : samples ≤ 1048575) (turns : Nat) : Tracker.Bounded { t with samples := samples, turns := turns } :=
  ⟨h.history, h.stale, h.misses, h.passes, few, h.zero, h.ref⟩

theorem Tracker.Bounded.withZero (exact : Nat) (l prevL : Int) (armed : Bool) :
    Tracker.Bounded { t with l := l, prevL := prevL, zero := some (.of exact), zeroSinceArmed := armed } :=
  ⟨h.history, h.stale, h.misses, h.passes, h.samples, fun _ e => by cases e; exact Instant.of_ticks_le exact, h.ref⟩

theorem Tracker.Bounded.withRef {ref : Option Instant} (held : ∀ i ∈ ref, i.ticks ≤ 16777215) {stale : Nat} (loaded : stale ≤ 4096) :
    Tracker.Bounded { t with ref := ref, stale := stale } :=
  ⟨h.history, loaded, h.misses, h.passes, h.samples, h.zero, held⟩

theorem length_newestAlone_le : (newestAlone t.history).length ≤ 8 := by
  have := h.history
  simp only [newestAlone, List.length_drop]
  omega

theorem Tracker.Bounded.filterSample (r : StringRecord) (y : Int) : (filterSample r y t).Bounded := by
  have counted : (t.setTaken (t.taken + 1)).Bounded := h.withSample (Nat.le_of_lt_succ (Nat.mod_lt _ (by decide))) _
  unfold Machine.filterSample
  dsimp only
  generalize t.setTaken (t.taken + 1) = v at counted
  split
  · exact counted.withZero _ _ _ _
  · exact counted.of_eq le_rfl le_rfl le_rfl rfl rfl rfl rfl

theorem Tracker.Bounded.detect (level : Nat) : (detect level t).1.Bounded := by
  unfold Machine.detect
  split <;> split
  · exact h.of_eq le_rfl le_rfl le_rfl rfl rfl rfl rfl
  · exact h
  · exact h.of_eq le_rfl le_rfl le_rfl rfl rfl rfl rfl
  · exact h

theorem Tracker.Bounded.missed (jump : Option Nat) : (missed jump t).1.Bounded := h.withMisses (Nat.min_le_left _ _) jump t.period

theorem Tracker.Bounded.outOfRange : (outOfRange t).1.Bounded := by
  unfold Machine.outOfRange
  split
  · exact h.withCandidates Candidates.revived_passes (by simp) t.decided
  · exact (h.withHistory (history := []) (by simp)).missed none

theorem Tracker.Bounded.measure (r : StringRecord) (period measured : Nat) : (measure r period measured t).1.Bounded := by
  unfold Machine.measure
  split
  · exact h.withMisses (by decide) _ _
  · split
    · split
      · exact h.withMisses (by decide) _ _
      · exact h.missed _
    · exact h.missed _

theorem Tracker.Bounded.lockedCrossing (r : StringRecord) : (lockedCrossing r t).1.Bounded := by
  unfold Machine.lockedCrossing
  split
  · split
    · exact h.measure _ _ _
    · exact h
  · exact h

theorem Tracker.Bounded.searchCrossing (r : StringRecord) : (searchCrossing r t).1.Bounded := by
  have tested : ∀ k, ((testCandidates r.tolerance t.history t.candidates).get k).passes ≤ 255 := fun k =>
    match k with
    | .k1 => testCandidate_passes _ _ _ (h.passes .k1)
    | .k2 => testCandidate_passes _ _ _ (h.passes .k2)
    | .k3 => testCandidate_passes _ _ _ (h.passes .k3)
    | .k4 => testCandidate_passes _ _ _ (h.passes .k4)
  unfold Machine.searchCrossing
  generalize testCandidates r.tolerance t.history t.candidates = c at tested
  dsimp only
  split
  · exact h.withCandidates Candidates.revived_passes (length_newestAlone_le h) t.decided
  · split
    · exact h.withCandidates tested h.history true
    · split <;> exact h.withCandidates tested h.history t.decided

theorem Tracker.Bounded.countCrossing (r : StringRecord) {point : Instant} (hp : point.ticks ≤ 16777215) :
    (Machine.countCrossing r point t).1.Bounded := by
  have kept : ∀ x : Tracker × TrackOutcome, Machine.countCrossing r point t = x → x.1.Bounded := by
    intro x e
    have counted : Tracker.Bounded { t with ref := some point, stale := 4096 } := h.withRef (fun _ e => by cases e; exact hp) le_rfl
    unfold Machine.countCrossing at e
    split at e
    · rw [← e]; exact counted
    · have appended : ∀ interval, Tracker.Bounded { t with ref := some point, stale := 4096, history := appendInterval interval t.history } :=
        fun interval => counted.withHistory (by rw [length_appendInterval]; omega)
      dsimp only at e
      split at e
      · split at e <;> rw [← e]
        · exact (appended _).searchCrossing r
        · exact (appended _).lockedCrossing r
      · rw [← e]; exact counted.outOfRange
  exact kept _ rfl

theorem Tracker.Bounded.trackSample (r : StringRecord) (level : Nat) (y : Int) : (trackSample r level y t).1.Bounded := by
  have detected := (h.filterSample r y).detect (hysteresis r.hysteresisShift level)
  unfold Machine.trackSample
  dsimp only
  split
  · next point _ at_zero => exact detected.countCrossing r (detected.zero point at_zero)
  · unfold countStale
    split
    · exact detected
    · exact detected.of_eq le_rfl (Nat.sub_le _ _) le_rfl rfl rfl rfl rfl

theorem Tracker.Bounded.takeLock (k : CandidateNo) (period : Nat) : (t.takeLock k period).Bounded := by
  unfold Tracker.takeLock
  split
  · exact h.of_eq le_rfl le_rfl (Nat.zero_le _) rfl rfl rfl rfl
  · exact h

theorem Tracker.Bounded.takeLockLoss : t.takeLockLoss.Bounded := by
  unfold Tracker.takeLockLoss
  split
  · exact ⟨length_newestAlone_le h, h.stale, Nat.zero_le _, Candidates.revived_passes, h.samples, h.zero, h.ref⟩
  · exact h

theorem Tracker.Bounded.takeStale : t.takeStale.1.Bounded := by
  unfold Tracker.takeStale
  split
  · exact (h.withRef (ref := none) (by simp) h.stale).outOfRange
  · exact h

end

/-! ### Envelopes and monitors -/

theorem nextLevel_le {decayShift level : Nat} (h : level ≤ levelMax) (y : Int) : nextLevel decayShift level y ≤ levelMax := by
  unfold nextLevel
  have := Nat.sub_le level (level / 2 ^ decayShift)
  omega

theorem Envelope.zero_bounded : Envelope.zero.Bounded := ⟨Nat.zero_le _, Nat.zero_le _, Nat.zero_le _⟩

theorem Monitor.clear_bounded : Monitor.clear.Bounded := ⟨Nat.zero_le _, Nat.zero_le _, Nat.zero_le _⟩

theorem Monitor.Bounded.updateRuns {m : Monitor} (h : m.Bounded) (r : StringRecord) (x : Int) (flag : Bool) : (updateRuns r x flag m).Bounded := by
  refine ⟨?_, ?_, h.2.2⟩
  · show (if _ then bump8 m.clipRun else 0) ≤ 255
    split
    · exact Nat.min_le_left _ _
    · exact Nat.zero_le _
  · show (if x = 0 then 0 else if m.last = some x then bump m.stuckRun else 1) ≤ 65535
    split
    · exact Nat.zero_le _
    · split
      · exact bump_le _
      · decide

/-! ### Counters -/

section
variable {c : StringCounters} (h : c.Saturated)
include h

theorem StringCounters.Saturated.ghostsBumped : ({ c with ghosts := bump c.ghosts } : StringCounters).Saturated := by
  obtain ⟨-, rest⟩ := h
  exact ⟨bump_le _, rest⟩

theorem StringCounters.Saturated.lockLossesBumped : ({ c with lockLosses := bump c.lockLosses } : StringCounters).Saturated := by
  obtain ⟨ghosts, unzoned, lost, merged, -, rest⟩ := h
  exact ⟨ghosts, unzoned, lost, merged, bump_le _, rest⟩

theorem StringCounters.Saturated.faultsBumped : ({ c with faults := bump c.faults } : StringCounters).Saturated := by
  obtain ⟨ghosts, unzoned, lost, merged, losses, -, retries⟩ := h
  exact ⟨ghosts, unzoned, lost, merged, losses, bump_le _, retries⟩

theorem StringCounters.Saturated.retriesBumped : ({ c with retries := bump c.retries } : StringCounters).Saturated := by
  obtain ⟨ghosts, unzoned, lost, merged, losses, faults, -⟩ := h
  exact ⟨ghosts, unzoned, lost, merged, losses, faults, bump_le _⟩

end

/-! ### Units -/

section
variable {u v : StringUnit} (h : u.Capacities)
include h

theorem StringUnit.Capacities.noteWork (w : NoteWork u v) : v.Capacities :=
  ⟨w.saturated h.counters, w.room h.queue, by rw [w.env]; exact h.env, by rw [w.tracker]; exact h.tracker, by rw [w.monitor]; exact h.monitor⟩

/-- The blocks written one by one. -/
theorem StringUnit.Capacities.withBlocks {c : StringCounters} (hc : c.Saturated) {env : Envelope} (he : env.Bounded) {t : Tracker} (ht : t.Bounded)
    {m : Monitor} (hm : m.Bounded) (counters : v.counters = c) (queue : v.queue = u.queue) (env' : v.env = env) (tracker : v.tracker = t)
    (monitor : v.monitor = m) : v.Capacities :=
  ⟨by rw [counters]; exact hc, by rw [queue]; exact h.queue, by rw [env']; exact he, by rw [tracker]; exact ht, by rw [monitor]; exact hm⟩

theorem StringUnit.Capacities.of_eq (counters : v.counters = u.counters) (queue : v.queue = u.queue) (env : v.env = u.env)
    (tracker : v.tracker = u.tracker) (monitor : v.monitor = u.monitor) : v.Capacities :=
  h.withBlocks h.counters h.env h.tracker h.monitor counters queue env tracker monitor

theorem StringUnit.Capacities.silenceIn (state : StringState) : (u.silenceIn state).Capacities :=
  h.withBlocks h.counters Envelope.zero_bounded (Tracker.fresh_bounded _) h.monitor rfl rfl rfl rfl rfl

theorem StringUnit.Capacities.settleIn (state : StringState) : (u.settleIn state).Capacities :=
  h.withBlocks (env := u.env.quiet) h.counters ⟨h.env.1, Nat.zero_le _, Nat.zero_le _⟩ (Tracker.fresh_bounded _) h.monitor rfl rfl rfl rfl rfl

theorem StringUnit.Capacities.withMonitor {m : Monitor} (hm : m.Bounded) : ({ u with monitor := m } : StringUnit).Capacities :=
  h.withBlocks h.counters h.env h.tracker hm rfl rfl rfl rfl rfl

theorem StringUnit.Capacities.withCounters {c : StringCounters} (hc : c.Saturated) : ({ u with counters := c } : StringUnit).Capacities :=
  h.withBlocks hc h.env h.tracker h.monitor rfl rfl rfl rfl rfl

theorem StringUnit.Capacities.withTracker {t : Tracker} (ht : t.Bounded) (due : Due) :
    ({ u with tracker := t, due := due } : StringUnit).Capacities := h.withBlocks h.counters h.env ht h.monitor rfl rfl rfl rfl rfl

theorem StringUnit.Capacities.withEnv {env : Envelope} (he : env.Bounded) (damp : Nat) (due : Due) :
    ({ u with env := env, damp := damp, due := due } : StringUnit).Capacities := h.withBlocks h.counters he h.tracker h.monitor rfl rfl rfl rfl rfl

theorem StringUnit.Capacities.beginAttack (r : StringRecord) {level : Nat} (hl : level ≤ levelMax) : (beginAttack r level u).Capacities :=
  h.withBlocks h.counters ⟨hl, hl, hl⟩ (Tracker.fresh_bounded _) h.monitor rfl rfl rfl rfl rfl

theorem StringUnit.Capacities.envelopeSample (r : StringRecord) (y : Int) (stamp : Index) : (envelopeSample r y stamp u).Capacities := by
  obtain ⟨level_le, peak_le, valley_le⟩ := h.env
  have next_le := nextLevel_le (decayShift := r.decayShift) level_le y
  unfold Machine.envelopeSample
  generalize nextLevel r.decayShift u.env.level y = level at next_le
  dsimp only
  split
  · unfold envelopeIdle
    split
    · exact h.beginAttack r next_le
    · exact h.withEnv (env := { u.env with level := level }) ⟨next_le, peak_le, valley_le⟩ u.damp u.due
  · unfold envelopeAttack
    refine StringUnit.Capacities.noteWork ?_ (NoteWork.frameMark _ _)
    have counted := h.withEnv (env := Envelope.mk level (max u.env.peak level) u.env.valley (u.env.guard - 1) (nextHold r level u.env.hold))
      ⟨next_le, Nat.max_le.mpr ⟨peak_le, next_le⟩, valley_le⟩ u.damp
    split
    · exact counted _
    · exact counted _
  · unfold envelopeSounding
    dsimp only
    have counted := h.withEnv (env := Envelope.mk level u.env.peak (min u.env.valley level) (u.env.guard - 1) (nextHold r level u.env.hold))
      ⟨next_le, peak_le, (Nat.min_le_left _ _).trans valley_le⟩ u.damp
    split
    · exact (counted _).noteWork (NoteWork.frameMark _ _)
    · split
      · exact ((counted u.due).noteWork (NoteWork.endNote _ _ _ _)).beginAttack r next_le
      · exact (counted u.due).noteWork ((NoteWork.frameMark _ _).trans (NoteWork.pressDecision _ _ _ _))
  · exact h.withEnv (env := { u.env with level := level }) ⟨next_le, peak_le, valley_le⟩ _ _
  all_goals exact h

theorem StringUnit.Capacities.takeOutcome (stamp : Index) (o : TrackOutcome) : (takeOutcome stamp o u).Capacities := by
  obtain ⟨due, e⟩ := takeOutcome_eq stamp o u
  rw [e]
  exact h.of_eq rfl rfl rfl rfl rfl

theorem StringUnit.Capacities.trackerSample (tb : Tables) (n : StringNo) (y : Int) (stamp : Index) : (trackerSample tb n y stamp u).Capacities := by
  unfold Machine.trackerSample
  split
  · exact h
  · exact (h.withTracker (h.tracker.trackSample _ _ _) u.due).takeOutcome _ _

theorem StringUnit.Capacities.monitorSample (r : StringRecord) (x : Int) (flag : Bool) (stamp : Index) : (monitorSample r x flag stamp u).Capacities := by
  have runs := h.monitor.updateRuns r x flag
  have judged : ∀ (m : Monitor) (due : Due), m.Bounded → ({ u with monitor := m, due := due } : StringUnit).Capacities :=
    fun _ _ hm => h.withBlocks h.counters h.env h.tracker hm rfl rfl rfl rfl rfl
  obtain ⟨clip, stuck, -⟩ := id runs
  unfold Machine.monitorSample
  split
  · exact h
  · exact judged _ _ runs
  · exact judged _ _ runs
  · exact judged _ _ runs
  · exact judged _ _ runs
  · exact judged _ _ runs
  · unfold judgeTest
    dsimp only
    split
    · exact h.withBlocks h.counters.retriesBumped h.env h.tracker
        (m := { updateRuns r x flag u.monitor with
          wait := 1024 * r.faultWait, test := 0, retries := bump8 (updateRuns r x flag u.monitor).retries, cause := some _ })
        ⟨clip, stuck, Nat.min_le_left _ _⟩ rfl rfl rfl rfl rfl
    · exact judged _ _ runs
  · exact judged _ _ runs

theorem StringUnit.Capacities.takeLock (tb : Tables) (n : StringNo) : (takeLock tb n u).Capacities := by
  unfold Machine.takeLock
  split
  · exact h
  · exact (h.withTracker (h.tracker.takeLock _ _) _).noteWork (NoteWork.lockReport _ _ _ _ _)

theorem StringUnit.Capacities.enterFault (r : StringRecord) (cause : Cause) (stamp : Index) : (enterFault r cause stamp u).Capacities := by
  have ended := (h.noteWork (NoteWork.endForced r.outputMode stamp .fault u)).silenceIn (if r.faultLatch then .faultLatched else .faultWait)
  obtain ⟨clip, stuck, -⟩ := h.monitor
  exact ended.withBlocks ended.counters.faultsBumped ended.env ended.tracker
    (m := { u.monitor with cause := some cause, retries := 0, wait := if r.faultLatch then 0 else 1024 * r.faultWait, test := 0 })
    ⟨clip, stuck, Nat.zero_le _⟩ rfl rfl rfl rfl rfl

theorem StringUnit.Capacities.recoverString : (recoverString u).Capacities :=
  (h.silenceIn .idle).withMonitor (m := { u.monitor with cause := none, wait := 0, test := 0 }) h.monitor

theorem StringUnit.Capacities.unitEvent (tb : Tables) (n : StringNo) (e : Event) : (unitEvent tb n e u).Capacities := by
  have taken : ∀ due : Due, ({ u with due := due } : StringUnit).Capacities := fun _ => h.of_eq rfl rfl rfl rfl rfl
  cases e with
  | report => exact h.noteWork (NoteWork.takeReport tb n u)
  | release =>
    simp only [Machine.unitEvent, takeRelease]
    split
    · exact h
    · next stamp _ =>
      have taken := taken { u.due with release := none }
      generalize ({ u with due := { u.due with release := none } } : StringUnit) = v at taken
      split
      · have cleared := (taken.noteWork (NoteWork.clearContext v)).settleIn .idle
        exact cleared.withCounters taken.counters.ghostsBumped
      · exact (taken.noteWork (NoteWork.endNote _ _ _ _)).settleIn _
      all_goals exact taken
  | strikeDeadlineExpiry =>
    simp only [Machine.unitEvent, takeExpiry]
    split
    · exact h
    · refine StringUnit.Capacities.noteWork ?_ (NoteWork.expireDeadline _ _ _ _)
      exact (h.takeLock tb n).of_eq rfl rfl rfl rfl rfl
  | dampExit =>
    simp only [Machine.unitEvent, takeDampExit]
    split
    · split
      · exact h.of_eq rfl rfl rfl rfl rfl
      · exact taken _
    · exact h
  | staleCrossing =>
    simp only [Machine.unitEvent, takeStale]
    split
    · exact h
    · exact (h.withTracker h.tracker.takeStale _).takeOutcome _ _
  | lockLoss =>
    simp only [Machine.unitEvent, takeLockLoss]
    split
    · exact h
    · refine StringUnit.Capacities.noteWork ?_ (NoteWork.lossReport _)
      exact h.withBlocks h.counters.lockLossesBumped h.env h.tracker.takeLockLoss h.monitor rfl rfl rfl rfl rfl
  | lock => exact h.takeLock tb n
  | faultEntry =>
    simp only [Machine.unitEvent, faultEntryUnit]
    split
    · exact h
    · have taken := taken { u.due with fault := none }
      generalize ({ u with due := { u.due with fault := none } } : StringUnit) = v at taken
      split
      · exact taken.enterFault _ _ _
      · exact taken.enterFault _ _ _
      · exact taken.enterFault _ _ _
      · exact taken.enterFault _ _ _
      all_goals exact taken
  | faultWaitEnd =>
    simp only [Machine.unitEvent, takeWaitEnd]
    split
    · split
      · exact h.withBlocks h.counters h.env h.tracker (m := { u.monitor with test := 256 * (tb.strings.get n).faultTest }) h.monitor rfl rfl rfl rfl rfl
      · exact taken _
    · exact h
  | recovery =>
    simp only [Machine.unitEvent, recoveryUnit]
    split
    · split
      · exact (taken _).recoverString
      · exact taken _
    · exact h

theorem StringUnit.Capacities.huntString (r : StringRecord) (stamp : Index) : (huntString r stamp u).Capacities := by
  obtain ⟨clip, stuck, retries⟩ := h.monitor
  have quiet : Monitor.Bounded { u.monitor with clipRun := 0, stuckRun := 0, flagSeen := false, last := none } :=
    ⟨Nat.zero_le _, Nat.zero_le _, retries⟩
  have ended := ((h.noteWork (NoteWork.endForced r.outputMode stamp .link u)).silenceIn .idle).withMonitor quiet
  unfold Machine.huntString
  dsimp only
  split
  · exact ended
  · exact ended
  · exact ended
  · exact ended
  all_goals exact h.withMonitor quiet

theorem StringUnit.Capacities.changeEnable (old new : Bool) (mode : OutputMode) (stamp : Index) : (changeEnable old new mode stamp u).Capacities := by
  unfold Machine.changeEnable
  split
  · exact h
  · split
    · split
      · exact (h.silenceIn .idle).withMonitor Monitor.clear_bounded
      · exact h
    · have ended := ((h.noteWork (NoteWork.endForced mode stamp .disabled u)).silenceIn .off).withMonitor Monitor.clear_bounded
      exact ended.of_eq rfl rfl rfl rfl rfl

theorem StringUnit.Capacities.dampString (r : StringRecord) (stamp : Index) : (dampString r stamp u).1.Capacities := by
  unfold Machine.dampString
  split
  · exact ((h.noteWork (NoteWork.endNote _ _ _ _)).settleIn .damped).of_eq rfl rfl rfl rfl rfl
  · exact ((h.noteWork (NoteWork.clearContext u)).settleIn .damped).of_eq rfl rfl rfl rfl rfl
  · exact h.of_eq rfl rfl rfl rfl rfl
  all_goals exact h

theorem StringUnit.Capacities.completed (item : TxItem) (n : StringNo) : (completeUnit item n u).Capacities := by
  obtain ⟨group, e⟩ := completeUnit_eq item n u
  rw [e]
  exact h.of_eq rfl rfl rfl rfl rfl

theorem StringUnit.Capacities.resetQueue (stamp : Index) : (resetQueue stamp u).Capacities := by
  have flushed : ∀ queue : List NoteRecord, queue.length ≤ 1 → ∀ glide press, ({ u with queue := queue, glide := glide, press := press, refusing := true } :
      StringUnit).Capacities := fun queue short _ _ => ⟨h.counters, short.trans (by decide), h.env, h.tracker, h.monitor⟩
  unfold Machine.resetQueue
  dsimp only
  split
  · exact flushed [.lift stamp .reset] le_rfl none none
  · exact flushed [] (Nat.zero_le _) none none

theorem StringUnit.Capacities.resetString (full : Bool) : (resetString full u).Capacities :=
  h.withBlocks h.counters Envelope.zero_bounded (Tracker.fresh_bounded _) Monitor.clear_bounded rfl rfl rfl rfl rfl

end

theorem StringCounters.zero_saturated : StringCounters.zero.Saturated := by decide

theorem StringUnit.powerOn_capacities : StringUnit.powerOn.Capacities :=
  ⟨StringCounters.zero_saturated, by simp [powerOn], Envelope.zero_bounded, Tracker.fresh_bounded _, Monitor.clear_bounded⟩

/-- A string's capacities, as a condition beside the shared blocks. -/
def capacityUnit : UnitPred := fun _ _ _ _ u => u.Capacities

theorem capacityUnit_frameKept : UnitFrameKept capacityUnit where
  envelope y index h := h.envelopeSample _ y index
  tracker y index h := h.trackerSample _ _ y index
  monitor x flag index h := h.monitorSample _ x flag index
  event e h := h.unitEvent _ _ e
  hunt index h := h.huntString _ index
  sync h := h
  dropped h := h.of_eq rfl rfl rfl rfl rfl

theorem capacityUnit_kept : UnitKept capacityUnit fun _ => capacityUnit where
  toUnitFrameKept := capacityUnit_frameKept
  powerOn _ := StringUnit.powerOn_capacities
  device _ h := h
  row _ _ h := h
  zone _ _ _ h := h
  curve _ _ h := h
  written _ index _ h := (h.noteWork (NoteWork.changeMode _ _ _ index _)).changeEnable _ _ _ index
  writtenOther _ _ _ _ h := h
  recovered _ h := h.recoverString
  damped index h := h.dampString _ index
  cleared h := h.withCounters StringCounters.zero_saturated
  completed h := h.completed _ _
  moved _ h := h
  aborted h := h
  sentOther _ h := h
  noGlide h := h.of_eq rfl rfl rfl rfl rfl
  noPress h := h.of_eq rfl rfl rfl rfl rfl
  taken {tb p n u record rest} queue h := by
    have room := h.queue
    rw [queue, List.length_cons] at room
    exact ⟨h.counters, by show rest.length ≤ 8; omega, h.env, h.tracker, h.monitor⟩
  takenOther _ _ _ _ _ h := h
  reset {tb p tx n u} full index h := by
    have reset := (h.resetQueue index).resetString full
    cases full
    · exact reset
    · exact reset.withCounters StringCounters.zero_saturated
  lateFrame _ := capacityUnit_frameKept
  late {tb p tx n u} full index h := by
    have flushed := h.resetQueue index
    cases full
    · exact flushed
    · exact flushed.withCounters StringCounters.zero_saturated
  lateReset full h := h.resetString full

end Sys2Proof.Machine
end

section
/-! Every step keeps the shared queues, buffers and counters within their capacities (R117, R168, R173, R176, R185). -/

namespace Sys2Proof.Machine

/-- The capacities of the blocks beside the strings. -/
structure SharedBounds (s : State) : Prop where
  link : s.link.Saturated
  notices : s.tx.notices.length ≤ 8
  answers : s.answers.length ≤ 4
  up : s.relayUp.length ≤ 2
  down : s.relayDown.length ≤ 2
  pickupSide : (SideReceiver.bytes s.pickup.side).length ≤ 64
  synthSide : (SideReceiver.bytes s.synth.side).length ≤ 64

theorem bounded_iff (s : State) : Bounded s ↔ EveryUnit capacityUnit s ∧ SharedBounds s := by
  constructor
  · rintro ⟨units, link, notices, answers, up, down, pickup, synth⟩
    exact ⟨fun n => (s.unit n).bounded_iff.mp (units n), link, notices, answers, up, down, pickup, synth⟩
  · rintro ⟨units, link, notices, answers, up, down, pickup, synth⟩
    exact ⟨fun n => (s.unit n).bounded_iff.mpr (units n), link, notices, answers, up, down, pickup, synth⟩

/-- A side byte leaves no more than 64 bytes held (R168, R169). -/
theorem takeSideByte_le (tag : Tag) (b : Byte) {r : SideReceiver} (h : (SideReceiver.bytes r).length ≤ 64) :
    (SideReceiver.bytes (takeSideByte tag b r).1).length ≤ 64 := by
  unfold takeSideByte
  split
  · exact Nat.succ_le_succ (Nat.zero_le _)
  · exact Nat.succ_le_succ (Nat.zero_le _)
  · exact Nat.zero_le _
  · split
    · exact Nat.zero_le _
    · simp only [SideReceiver.bytes, Option.getD_some, List.length_append, List.length_singleton]
      omega
  · exact Nat.zero_le _
  · split <;> exact Nat.zero_le _
  · exact Nat.zero_le _
  · exact Nat.zero_le _

section
variable {s : State} (h : SharedBounds s)
include h

/-- Only these blocks count. -/
theorem SharedBounds.of_eq {t : State} (link : t.link = s.link) (notices : t.tx.notices = s.tx.notices) (answers : t.answers = s.answers)
    (up : t.relayUp = s.relayUp) (down : t.relayDown = s.relayDown) (pickup : t.pickup.side = s.pickup.side)
    (synth : t.synth.side = s.synth.side) : SharedBounds t :=
  ⟨by rw [link]; exact h.link, by rw [notices]; exact h.notices, by rw [answers]; exact h.answers, by rw [up]; exact h.up,
    by rw [down]; exact h.down, by rw [pickup]; exact h.pickupSide, by rw [synth]; exact h.synthSide⟩

theorem SharedBounds.withLink {link : LinkCounters} (saturated : link.Saturated) : SharedBounds { s with link := link } :=
  ⟨saturated, h.notices, h.answers, h.up, h.down, h.pickupSide, h.synthSide⟩

theorem SharedBounds.offerNotice (notice : Notice) : SharedBounds (s.offerNotice notice) := by
  rcases s.offerNotice_cases notice with ⟨-, e⟩ | ⟨-, room, e⟩ | ⟨-, -, e⟩ <;> rw [e]
  · exact h
  · exact ⟨h.link, by simp only [List.length_append, List.length_singleton]; omega, h.answers, h.up, h.down, h.pickupSide, h.synthSide⟩
  · exact h.withLink h.link.noticesLost

theorem SharedBounds.takeEvent (n : StringNo) (e : Event) : SharedBounds (s.takeEvent n e) :=
  State.takeEvent_keeps (fun _ x h => h.offerNotice x) n e s (h.of_eq rfl rfl rfl rfl rfl rfl rfl)

theorem SharedBounds.complete : SharedBounds s.complete := by
  obtain ⟨_, _, e⟩ := s.complete_shape
  rw [e]
  exact h.of_eq rfl rfl rfl rfl rfl rfl rfl

theorem SharedBounds.offerRecord (record : FrameRecord) : SharedBounds (s.offerRecord record) := by
  rcases s.offerRecord_cases record with ⟨-, e⟩ | ⟨_, -, e⟩ <;> rw [e]
  · exact h.of_eq rfl rfl rfl rfl rfl rfl rfl
  · refine SharedBounds.offerNotice ?_ _
    exact (h.withLink h.link.dropSlips).of_eq rfl rfl rfl rfl rfl rfl rfl

theorem SharedBounds.takePickupHunt : SharedBounds s.takePickupHunt := by
  unfold State.takePickupHunt State.pickupHuntEntry
  split
  · refine SharedBounds.offerNotice ?_ _
    exact ⟨h.link.pickupSyncLosses, h.notices, h.answers, h.up, h.down, Nat.zero_le _, h.synthSide⟩
  · exact h

theorem SharedBounds.takePickupSync : SharedBounds s.takePickupSync := by
  unfold State.takePickupSync State.pickupSyncEntry
  split
  · refine SharedBounds.offerNotice ?_ _
    exact h.of_eq rfl rfl rfl rfl rfl rfl rfl
  · exact h

theorem SharedBounds.pickupSideByte (tag : Tag) (b : Byte) : SharedBounds (s.pickupSideByte tag b) := by
  have side := takeSideByte_le tag b h.pickupSide
  rcases s.pickupSideByte_cases tag b with ⟨link, saturated, e⟩ | ⟨m, room, e⟩ <;> rw [e]
  · exact ⟨saturated h.link, h.notices, h.answers, h.up, h.down, side, h.synthSide⟩
  · exact ⟨h.link, h.notices, h.answers, h.up, by simp only [List.length_append, List.length_singleton]; omega, side, h.synthSide⟩

theorem SharedBounds.sendReturnFrame : SharedBounds s.sendReturnFrame := by
  obtain ⟨_, _, e | ⟨m, rest, up, e⟩⟩ := s.sendReturnFrame_cases <;> rw [e]
  · exact h.of_eq rfl rfl rfl rfl rfl rfl rfl
  · have room := h.up
    rw [up, List.length_cons] at room
    exact ⟨h.link, h.notices, h.answers, by show rest.length ≤ 2; omega, h.down, h.pickupSide, h.synthSide⟩

end

theorem sharedBounds_frameKept : FrameKept SharedBounds where
  store _ record h := h.offerRecord record
  envelope _ _ _ _ _ h := h.of_eq rfl rfl rfl rfl rfl rfl rfl
  tracker _ _ _ _ h := h.of_eq rfl rfl rfl rfl rfl rfl rfl
  monitor _ _ _ _ _ h := h.of_eq rfl rfl rfl rfl rfl rfl rfl
  event _ n e h := h.takeEvent n e
  place _ _ h := h.of_eq rfl rfl rfl rfl rfl rfl rfl
  huntEntry _ h := h.takePickupHunt
  syncEntry _ h := h.takePickupSync
  judged _ _ _ h := h.of_eq rfl rfl rfl rfl rfl rfl rfl
  counted _ h := h.of_eq rfl rfl rfl rfl rfl rfl rfl
  sideByte _ tag b h := h.pickupSideByte tag b
  returned _ h := h.sendReturnFrame

theorem LinkCounters.zero_saturated : LinkCounters.zero.Saturated := by decide

theorem sharedBounds_kept : StepKept SharedBounds where
  powerOn _ _ := ⟨LinkCounters.zero_saturated, Nat.zero_le _, Nat.zero_le _, Nat.zero_le _, Nat.zero_le _, Nat.zero_le _, Nat.zero_le _⟩
  pickupFrame s frame order h := sharedBounds_frameKept.pickupFrame frame order s h
  event _ n e h := h.takeEvent n e
  huntEntry _ h := h.takePickupHunt
  syncEntry _ h := h.takePickupSync
  link _ _ saturated h := h.withLink (saturated h.link)
  relayedUp _ _ room h :=
    ⟨h.link, h.notices, h.answers, by simp only [List.length_append, List.length_singleton]; omega, h.down, h.pickupSide, h.synthSide⟩
  relayedDown _ _ room h :=
    ⟨h.link, h.notices, h.answers, h.up, by simp only [List.length_append, List.length_singleton]; omega, h.pickupSide, h.synthSide⟩
  complete _ h := h.complete
  sideByte s h := State.sideByte_keeps (fun _ _ h => h.of_eq rfl rfl rfl rfl rfl rfl rfl)
    (State.pick_keeps (fun _ _ h => h.of_eq rfl rfl rfl rfl rfl rfl rfl) (fun _ _ _ h => h.of_eq rfl rfl rfl rfl rfl rfl rfl)
      (fun _ _ rest e h => by
        have room := h.notices
        rw [e, List.length_cons] at room
        exact ⟨h.link, by show rest.length ≤ 8; omega, h.answers, h.up, h.down, h.pickupSide, h.synthSide⟩)
      (fun _ _ rest e h => by
        have room := h.answers
        rw [e, List.length_cons] at room
        exact ⟨h.link, h.notices, by show rest.length ≤ 4; omega, h.up, h.down, h.pickupSide, h.synthSide⟩)
      fun _ _ rest e h => by
        have room := h.down
        rw [e, List.length_cons] at room
        exact ⟨h.link, h.notices, h.answers, h.up, by show rest.length ≤ 2; omega, h.pickupSide, h.synthSide⟩) s h
  readStore s h := by
    rcases s.readStore_cases with ⟨-, e⟩ | ⟨_, -, e⟩ <;> rw [e]
    · exact h.of_eq rfl rfl rfl rfl rfl rfl rfl
    · refine SharedBounds.offerNotice ?_ _
      exact (h.withLink h.link.repeatSlips).of_eq rfl rfl rfl rfl rfl rfl rfl
  sent _ _ h := h.of_eq rfl rfl rfl rfl rfl rfl rfl
  synthReceiver _ _ h := h.of_eq rfl rfl rfl rfl rfl rfl rfl
  synthSide _ _ kept h := ⟨h.link, h.notices, h.answers, h.up, h.down, h.pickupSide, kept h.synthSide⟩
  clockLost s h := by
    rcases s.clockLost_cases with ⟨-, e⟩ | ⟨-, _, _, e⟩ <;> rw [e]
    · exact h
    · exact ⟨h.link, h.notices, h.answers, h.up, h.down, h.pickupSide, Nat.zero_le _⟩
  clockReturn s h := by
    unfold State.clockReturn
    split
    · exact h
    · refine SharedBounds.offerNotice ?_ _
      exact h.of_eq rfl rfl rfl rfl rfl rfl rfl
  device _ _ h := h.of_eq rfl rfl rfl rfl rfl rfl rfl
  row _ _ _ h := h.of_eq rfl rfl rfl rfl rfl rfl rfl
  zone _ _ _ _ h := h.of_eq rfl rfl rfl rfl rfl rfl rfl
  curve _ _ _ h := h.of_eq rfl rfl rfl rfl rfl rfl rfl
  written _ _ _ _ h := h.of_eq rfl rfl rfl rfl rfl rfl rfl
  recovered s n _ h := by
    refine SharedBounds.offerNotice ?_ _
    exact h.of_eq rfl rfl rfl rfl rfl rfl rfl
  damped _ _ h := h.of_eq rfl rfl rfl rfl rfl rfl rfl
  cleared _ _ h := h.of_eq rfl rfl rfl rfl rfl rfl rfl
  answered _ _ _ _ room h :=
    ⟨h.link, h.notices, by simp only [State.answer, List.length_append, List.length_singleton]; omega, h.up, h.down, h.pickupSide, h.synthSide⟩
  reset s full tag order _ h := State.resetPart_keeps (fun s f o h => sharedBounds_frameKept.pickupFrame f o s h)
    (fun _ n e h => h.takeEvent n e) (fun _ _ h => h.of_eq rfl rfl rfl rfl rfl rfl rfl) (fun _ h => h.complete)
    (fun _ tx empty h => ⟨h.link, by simp [empty], h.answers, h.up, h.down, h.pickupSide, h.synthSide⟩)
    (fun _ h => ⟨h.link, h.notices, Nat.zero_le _, h.up, h.down, h.pickupSide, h.synthSide⟩)
    (fun _ h => ⟨LinkCounters.zero_saturated, h.notices, h.answers, Nat.zero_le _, Nat.zero_le _, h.pickupSide, h.synthSide⟩)
    (fun _ _ _ _ empty h => ⟨h.link, h.notices, by simp [State.answer, empty], h.up, h.down, h.pickupSide, h.synthSide⟩) s full tag order h

/-- Settles O5: every block refuses or drops what would pass its capacity, and every counter saturates. -/
theorem capacitiesKept : Obligations.CapacitiesKept := by
  intro s t bounded stepped
  obtain ⟨units, shared⟩ := (bounded_iff s).mp bounded
  exact (bounded_iff t).mpr ⟨capacityUnit_kept.stepKept.step (fun _ _ h => h) units stepped,
    sharedBounds_kept.step (fun _ _ h => h.of_eq rfl rfl rfl rfl rfl rfl rfl) shared stepped⟩

end Sys2Proof.Machine
end

section
/-! Steps, power-on, frame fields. -/

namespace Sys2Proof.Machine

/-- Settles O1: a step is defined by the front of the queue. -/
theorem stepRunsFrontCommand : Obligations.StepRunsFrontCommand := by
  constructor
  · intro c rest s waiting
    rw [step, waiting]
  · intro s empty
    rw [step, empty]

/-- Settles O3: the power-on state is the reset state's literal, and its tables the literal defaults. -/
theorem powerOnGivesPowerOnState : Obligations.PowerOnGivesPowerOnState := by
  refine ⟨⟨rfl, fun _ => rfl⟩, fun s => ⟨s.powerOn, rfl, rfl, rfl, rfl, rfl, fun n => ?_, fun n m => ?_, fun i => ?_, rfl, fun n => ?_,
    ⟨rfl, rfl, rfl, rfl, rfl⟩, rfl, rfl, rfl, rfl, rfl, rfl, rfl, rfl, rfl⟩⟩
  · cases n <;> rfl
  · cases n <;> cases m <;> rfl
  · show Tables.default.zones.get i = _
    rw [Tables.default_zone, ZoneRecord.default]
    split <;> rfl
  · show (State.reset.units.get n).state = _ ∧ _
    cases n <;> exact ⟨rfl, rfl, rfl, rfl, rfl, rfl, rfl, rfl, rfl, rfl, rfl, rfl, rfl, rfl⟩

theorem State.reset_unit (n : StringNo) : State.reset.unit n = StringUnit.powerOn := Six.get_same _ n

/-- Settles O4: each invariant's base case, from the unit and the tables at power-on. -/
theorem soundAtReset : Obligations.SoundAtReset where
  bounded := (bounded_iff _).mpr ⟨fun n => by rw [State.reset_unit]; exact StringUnit.powerOn_capacities,
    sharedBounds_kept.powerOn State.reset ⟨by decide, by decide, by decide, by decide, by decide, by decide, by decide⟩⟩
  clocked := ⟨by decide, by decide⟩
  consecutive := ⟨fun _ e => (by cases e), Store.run_of_runLength_eq_zero rfl _⟩
  tables := Tables.default_sound
  agree := (stringsAgree_iff _).mpr fun n => by rw [State.reset_unit]; exact agreesUnit_kept.powerOn n
  groups := fun n => by rw [State.reset_unit]; exact (groupsUnit_kept.powerOn n).2
  trackers := fun n => by rw [State.reset_unit]; exact (tracksUnit_kept.powerOn n).2
  numbers := ⟨fun n => by rw [State.reset_unit]; exact StringUnit.powerOn_inRange, trivial⟩

/-! ### Neighbour samples -/

/-- A faulted string's neighbour sample is 0, whatever its raw sample (R4). -/
theorem neighbour_of_faulted {state : StringState} (faulted : state.faulted = true) (x : Int) : neighbour state x = 0 := if_pos faulted

/-- Settles O17: of a faulted string the row sums see 0, and another string's cancelled sample sees its raw sample nowhere else. -/
theorem faultedNeighbourDropsOut : Obligations.FaultedNeighbourDropsOut := by
  intro matrix states raw n t x other faulted
  have neighbours : ∀ m, neighbour (states.get m) ((raw.set t x).get m) = neighbour (states.get m) (raw.get m) := by
    intro m
    by_cases same : m = t
    · rw [same, neighbour_of_faulted faulted, neighbour_of_faulted faulted]
    · rw [Six.get_set_of_ne _ _ same]
  rw [get_cancel, get_cancel, Six.get_set_of_ne _ _ other]
  simp only [neighbours]

/-! ### Frames -/

section
variable {v w : Nat} (high : BitVec v) (low : BitVec w)

/-- A field that lies in the high part of an append. -/
theorem extractLsb'_append_high (first width : Nat) (h : w ≤ first) : (high ++ low).extractLsb' first width = high.extractLsb' (first - w) width :=
  BitVec.extractLsb'_append_eq_of_le h

/-- A field that lies in the low part of an append. -/
theorem extractLsb'_append_low (first width : Nat) (h : first + width ≤ w) : (high ++ low).extractLsb' first width = low.extractLsb' first width :=
  BitVec.extractLsb'_append_eq_of_add_le h

end

theorem field_sampleBits (samples : Six Int) (n : StringNo) :
    (sampleBits samples).extractLsb' (144 - 24 * (n.num - 1) - 24) 24 = BitVec.ofInt 24 (samples.get n) := by
  change BitVec.extractLsb' (n := 24 + 24 + 24 + 24 + 24 + 24) _ _ _ = _
  unfold sampleBits
  cases n <;> simp (disch := decide) only [extractLsb'_append_high, extractLsb'_append_low] <;> exact BitVec.extractLsb'_eq_self

theorem tag_code_ofCode (c : BitVec 2) : (Tag.ofCode c).code = c := by
  revert c; decide

/-- Settles O15: each field of an append is the part that stands there, and the fields received are read where the statement reads
them. -/
theorem synthFrameFieldsInPlace : Obligations.SynthFrameFieldsInPlace := by
  refine ⟨fun record prefill inSync tag side => ?_, fun tag side => ?_, fun f => ?_⟩
  · dsimp only
    unfold synthForwardFrame
    refine ⟨?_, fun n => ?_, ?_, ?_, ?_, ?_, ?_, ?_⟩ <;> change BitVec.extractLsb' (n := 16 + 144 + 16 + 1 + 1 + 2 + 8 + 68) _ _ _ = _
    · simp (disch := decide) only [extractLsb'_append_high]; rfl
    · refine Eq.trans ?_ (field_sampleBits record.samples n)
      cases n <;> simp (disch := decide) only [extractLsb'_append_high, extractLsb'_append_low] <;> rfl
    · simp (disch := decide) only [extractLsb'_append_high, extractLsb'_append_low]; exact BitVec.extractLsb'_eq_self
    · simp (disch := decide) only [extractLsb'_append_high, extractLsb'_append_low]; exact BitVec.extractLsb'_eq_self
    · simp (disch := decide) only [extractLsb'_append_high, extractLsb'_append_low]; exact BitVec.extractLsb'_eq_self
    · refine Eq.trans (b := tag.code) ?_ (by cases tag <;> rfl)
      simp (disch := decide) only [extractLsb'_append_high, extractLsb'_append_low]; exact BitVec.extractLsb'_eq_self
    · simp (disch := decide) only [extractLsb'_append_high, extractLsb'_append_low]; exact BitVec.extractLsb'_eq_self
    · simp (disch := decide) only [extractLsb'_append_low]; exact BitVec.extractLsb'_eq_self
  · dsimp only
    unfold pickupReturnFrame
    refine ⟨?_, ?_, ?_, ?_⟩ <;> change BitVec.extractLsb' (n := 16 + 2 + 8 + 230) _ _ _ = _
    · simp (disch := decide) only [extractLsb'_append_high]; rfl
    · refine Eq.trans (b := tag.code) ?_ (by cases tag <;> rfl)
      simp (disch := decide) only [extractLsb'_append_high, extractLsb'_append_low]; exact BitVec.extractLsb'_eq_self
    · simp (disch := decide) only [extractLsb'_append_high, extractLsb'_append_low]; exact BitVec.extractLsb'_eq_self
    · simp (disch := decide) only [extractLsb'_append_low]; exact BitVec.extractLsb'_eq_self
  · refine ⟨beq_iff_eq, fun n => ⟨rfl, beq_iff_eq⟩, ?_, rfl, ?_, rfl⟩
    · exact Eq.trans (b := (pickupTag f).code) (by cases pickupTag f <;> rfl) (tag_code_ofCode _)
    · exact Eq.trans (b := (returnTag f).code) (by cases returnTag f <;> rfl) (tag_code_ofCode _)

end Sys2Proof.Machine
end

section
/-! The envelope unit's work (R15 to R29, R82, R83). -/

namespace Sys2Proof.Machine

section
variable {r : StringRecord} {y : Int} {stamp : Index} {u : StringUnit}

theorem envelopeSample_idle (idle : u.state = .idle) :
    envelopeSample r y stamp u = envelopeIdle r (nextLevel r.decayShift u.env.level y) u := by simp [envelopeSample, idle]

theorem envelopeSample_attack (attack : u.state = .attack) :
    envelopeSample r y stamp u = envelopeAttack r (nextLevel r.decayShift u.env.level y) stamp u := by simp [envelopeSample, attack]

theorem envelopeSample_sounding (sounding : u.state = .sounding) :
    envelopeSample r y stamp u = envelopeSounding r (nextLevel r.decayShift u.env.level y) stamp u := by simp [envelopeSample, sounding]

theorem envelopeSample_damped (damped : u.state = .damped) :
    envelopeSample r y stamp u = envelopeDamped r (nextLevel r.decayShift u.env.level y) u := by simp [envelopeSample, damped]

/-- Elsewhere the envelope unit does not run (R20, R31). -/
theorem envelopeSample_silent (silent : u.state = .off ∨ u.state.faulted = true) : envelopeSample r y stamp u = u := by
  cases state : u.state <;> simp_all [envelopeSample, StringState.faulted]

end

/-- The frame mark, by what it counts (R82). -/
theorem frameMark_running {u : StringUnit} {count : Nat} (stamp : Index) (context : u.context = .pending (.running count)) :
    frameMark stamp u =
      { u with
        context := .pending (.running (count - 1))
        due := { u.due with expiry := if count ≤ 1 then some stamp else u.due.expiry } } := by
  simp only [frameMark, context]
  split <;> rfl

/-- The end of an announced note where a LIFT is taken: its record closes the queue, and the slots are empty (R101, R112). -/
theorem endNote_lifted {mode : OutputMode} {u : StringUnit} {note : Struck} (stamp : Index) (cause : LiftCause)
    (context : u.context = .struck note) (announced : note.announced = true) (accepts : u.accepts mode = true)
    (room : u.queue.length ≤ 7) :
    endNote mode stamp cause u =
      ({ u with queue := u.queue ++ [.lift stamp cause], glide := none, press := none } : StringUnit).clearContext := by
  simp [endNote, context, announced, offerLift, accepts, room]

/-- The end of a note that hands over no LIFT (R101, R108). -/
theorem endNote_silent {mode : OutputMode} {u : StringUnit} {note : Struck} (stamp : Index) (cause : LiftCause)
    (context : u.context = .struck note) (silent : note.announced = false ∨ u.accepts mode = false ∨ 8 ≤ u.queue.length) :
    endNote mode stamp cause u = u.clearContext := by
  simp only [endNote, context]
  split
  · next announced =>
    rcases silent with unannounced | refused | full
    · rw [announced] at unannounced; cases unannounced
    · rw [offerLift, if_pos refused]
    · rw [offerLift, if_neg (show ¬ u.queue.length ≤ 7 by omega), ite_self]
  · rfl

theorem reattacks_iff (r : StringRecord) (v : Envelope) :
    reattacks r v = true ↔ v.guard = 0 ∧ r.attach ≤ v.level ∧ v.valley * r.reattackRatio ≤ v.level * 8 := by
  simp [reattacks]

/-- Settles O18: the work in each state, with the frame mark and the end of the note it calls on. -/
theorem envelopeLevelAndTests : Obligations.EnvelopeLevelAndTests := by
  intro r y stamp u
  have next_eq : nextLevel r.decayShift u.env.level y = max (min y.natAbs 8388607) (u.env.level - u.env.level / 2 ^ r.decayShift) := rfl
  dsimp only
  rw [← next_eq]
  generalize next : nextLevel r.decayShift u.env.level y = level
  have marks : ∀ v : StringUnit, frameMark stamp v = (match v.context with
      | .pending (.running count) =>
        { v with
          context := .pending (.running (count - 1))
          due := { v.due with expiry := if count ≤ 1 then some stamp else v.due.expiry } }
      | .struck note =>
        { v with context := .struck { note with glideTimer := note.glideTimer - 1, pressTimer := note.pressTimer - 1 } }
      | .pending .stopped | .pending .waiting | .empty => v) := by
    intro v
    cases context : v.context with
    | pending deadline =>
      cases deadline with
      | running count => rw [frameMark_running stamp context]
      | stopped => simp [frameMark, context]
      | waiting => simp [frameMark, context]
    | struck note => simp [frameMark, context]
    | empty => simp [frameMark, context]
  refine ⟨fun runs => ?_, envelopeSample_silent, fun idle reached => ?_, fun idle below => ?_, fun attack => ?_, fun sounding => ⟨fun released => ?_,
    fun held quiet => ?_, fun held again => ?_⟩⟩
  · rcases runs with state | state | state | state
    · rw [envelopeSample_idle state, next, envelopeIdle]
      split <;> rfl
    · rw [envelopeSample_attack state, next, envelopeAttack, (NoteWork.frameMark _ _).env]
      split <;> rfl
    · rw [envelopeSample_sounding state, next, envelopeSounding]
      dsimp only
      split
      · rw [(NoteWork.frameMark _ _).env]; rfl
      · split
        · rfl
        · rw [pressDecision_env, (NoteWork.frameMark _ _).env]
    · rw [envelopeSample_damped state, next]; rfl
  · rw [envelopeSample_idle idle, next, envelopeIdle, if_pos reached]; rfl
  · rw [envelopeSample_idle idle, next, envelopeIdle, if_neg (by omega)]
  · rw [envelopeSample_attack attack, next, envelopeAttack, marks]
    rfl
  · rw [envelopeSample_sounding sounding, next, envelopeSounding]
    dsimp only
    rw [if_pos (by exact released), marks]
    rfl
  · rw [envelopeSample_sounding sounding, next, envelopeSounding]
    dsimp only
    rw [if_neg (by unfold nextHold; omega), if_neg, marks]
    · rfl
    · rw [reattacks_iff]
      rintro ⟨guard, reached, ratio⟩
      exact quiet ⟨by dsimp only at guard; omega, reached, ratio⟩
  · obtain ⟨guard, reached, ratio⟩ := again
    have due : envelopeSample r y stamp u = beginAttack r level (endNote r.outputMode stamp .reattack
        { u with env := ⟨level, u.env.peak, min u.env.valley level, u.env.guard - 1, if level < r.releaseThreshold then u.env.hold + 1 else 0⟩ }) := by
      rw [envelopeSample_sounding sounding, next, envelopeSounding]
      dsimp only
      rw [if_neg (by unfold nextHold; omega), if_pos]
      · rfl
      · rw [reattacks_iff]
        exact ⟨by dsimp only; omega, reached, ratio⟩
    rw [due]
    refine ⟨rfl, fun note context => ⟨fun silent => ?_, fun announced accepts room => ?_⟩⟩
    · have ended := fun env => endNote_silent (u := { u with env := env }) (mode := r.outputMode) stamp .reattack context silent
      rw [ended]
      rfl
    · have ended := fun env => endNote_lifted (u := { u with env := env }) (mode := r.outputMode) stamp .reattack context announced accepts room
      rw [ended]
      rfl

end Sys2Proof.Machine
end

section
/-! The steps of one string: what each does to the string's unit. -/

namespace Sys2Proof.Machine

/-! ### The steps as work on the unit -/

section
variable (n : StringNo) (s : State)

theorem exec_release : exec (.release n) s = .next (s.setUnit n (takeRelease (s.record n) (s.unit n))) := rfl
theorem exec_dampExit : exec (.dampExit n) s = .next (s.setUnit n (takeDampExit (s.unit n))) := rfl
theorem exec_lock : exec (.lock n) s = .next (s.setUnit n (takeLock s.tables n (s.unit n))) := rfl
theorem exec_lockLoss : exec (.lockLoss n) s = .next (s.setUnit n (takeLockLoss (s.unit n))) := rfl
theorem exec_staleCrossing : exec (.staleCrossing n) s = .next (s.setUnit n (takeStale (s.unit n))) := rfl
theorem exec_strikeDeadlineExpiry :
    exec (.strikeDeadlineExpiry n) s = .next (s.setUnit n (takeExpiry s.tables n (s.unit n))) := rfl
theorem exec_faultWaitEnd : exec (.faultWaitEnd n) s = .next (s.setUnit n (takeWaitEnd (s.record n) (s.unit n))) := rfl

theorem exec_faultEntry : exec (.faultEntry n) s =
    .next ((s.setUnit n (faultEntryUnit (s.record n) (s.unit n))).offerSome (eventNotice n .faultEntry (s.unit n))) :=
  congrArg _ (s.takeEvent_eq n .faultEntry)

theorem exec_recovery : exec (.recovery n) s =
    .next ((s.setUnit n (recoveryUnit (s.unit n))).offerSome (eventNotice n .recovery (s.unit n))) :=
  congrArg _ (s.takeEvent_eq n .recovery)

end

/-! ### RELEASE and DAMP_EXIT -/

theorem takeRelease_sounding {r : StringRecord} {u : StringUnit} {stamp : Index} (due : u.due.release = some stamp)
    (sounding : u.state = .sounding) :
    takeRelease r u = (endNote r.outputMode stamp .release { u with due := { u.due with release := none } }).settleIn .idle := by
  unfold takeRelease
  rw [due]
  dsimp only
  split
  all_goals first
    | rfl
    | (next state => exact absurd (state.symm.trans sounding) (by simp))

theorem takeRelease_attack {r : StringRecord} {u : StringUnit} {stamp : Index} (due : u.due.release = some stamp)
    (attack : u.state = .attack) : takeRelease r u = ghost { u with due := { u.due with release := none } } := by
  unfold takeRelease
  rw [due]
  dsimp only
  split
  all_goals first
    | rfl
    | (next state => exact absurd (state.symm.trans attack) (by simp))

/-- Settles O19: a ghost in ATTACK, the end of the note in SOUNDING, by whether a LIFT is handed over. -/
theorem releaseEndsTracking : Obligations.ReleaseEndsTracking := by
  intro n stamp s
  dsimp only
  simp only [exec_release]
  generalize s.unit n = u
  intro due
  refine ⟨fun attack => ?_, fun note sounding context announced accepts room => ?_, fun note sounding context silent => ?_⟩
  · rw [takeRelease_attack due attack]
    rfl
  · rw [takeRelease_sounding due sounding, endNote_lifted (note := note) _ _ (by exact context) announced (by exact accepts) (by exact room)]
    rfl
  · rw [takeRelease_sounding due sounding, endNote_silent (note := note) _ _ (by exact context) (by exact silent)]
    rfl

/-- Settles O20: the step looks at the damp timer alone; what made it due looked at the level too. -/
theorem dampExitGoesIdle : Obligations.DampExitGoesIdle := by
  refine ⟨fun n s due damped => ⟨fun elapsed => ?_, fun running => ?_⟩, fun r y stamp u damped => ?_⟩
  · rw [exec_dampExit, takeDampExit, if_pos due]
    dsimp only
    rw [if_pos ⟨damped, elapsed⟩]
  · rw [exec_dampExit, takeDampExit, if_pos due]
    dsimp only
    rw [if_neg (by omega)]
  · dsimp only
    rw [envelopeSample_damped damped]
    refine ⟨rfl, damped, ?_⟩
    simp only [envelopeDamped, decide_eq_true_eq]
    omega

/-! ### LOCK -/

/-- What LOCK makes of the tracker: it locks where the decision stands (R51). -/
theorem Tracker.takeLock_eq (k : CandidateNo) (period : Nat) (t : Tracker) : t.takeLock k period =
    if t.decided = true then { t with lock := .locked, k := some k, period := some period, jump := none, misses := 0, decided := false }
    else t := rfl

theorem takeLock_due {tb : Tables} {n : StringNo} {u : StringUnit} {report : LockReport} (due : u.due.lock = some report) :
    takeLock tb n u = lockReport tb n report.period report.stamp
      { u with tracker := u.tracker.takeLock report.k report.period, due := { u.due with lock := none } } := by
  simp only [takeLock, due]

/-- The report of a lock is discarded where no note waits or sounds (R27, R30, R76). -/
theorem lockReport_discarded {tb : Tables} {n : StringNo} {period : Nat} {stamp : Index} {u : StringUnit}
    (left : (u.state ≠ .attack ∧ u.state ≠ .sounding) ∨ u.context = .empty) : lockReport tb n period stamp u = u := by
  unfold lockReport
  rcases left with ⟨attack, sounding⟩ | empty
  · rw [if_neg]
    cases state : u.state <;> simp_all [StringState.tracked]
  · rw [empty]
    exact ite_self _

/-- A pending note is struck by the report of a lock (R91). -/
theorem lockReport_pending {tb : Tables} {n : StringNo} {period : Nat} {stamp : Index} {u : StringUnit} {deadline : Deadline}
    (attack : u.state = .attack) (pending : u.context = .pending deadline) :
    lockReport tb n period stamp u = strike tb n period stamp true u := by
  unfold lockReport
  rw [attack, pending]
  rfl

/-- The GLIDE decision passes over a note that is not announced, or has no zone (R99). -/
theorem glideDecision_of_quiet {r : StringRecord} {stamp : Index} {u : StringUnit} {note : Struck} (context : u.context = .struck note)
    (quiet : note.announced = false ∨ note.zone = none) : glideDecision r stamp u = u := by
  unfold glideDecision
  rw [context]
  cases u.pitch with
  | none => rfl
  | held _ _ => rfl
  | tracking _ _ =>
    cases zone : note.zone with
    | none => simp [zone]
    | some z =>
      rcases quiet with unannounced | unzoned
      · simp [zone, unannounced]
      · simp [zone] at unzoned

section
variable {tb : Tables} {n : StringNo} {period : Nat} {stamp : Index} {atLock : Bool} {u : StringUnit} {z : ZoneRecord}
  (attack : u.state = .attack) (found : zoneSearch tb.zones (tb.strings.get n).zoneHead (rawNote (pitchOf tb.device period)) = some z)
include attack found

/-- A STRIKE that joins the queue announces its note (R90, R93). -/
theorem strike_admitted (accepts : u.accepts (tb.strings.get n).outputMode = true) (room : u.queue.length ≤ 6) :
    strike tb n period stamp atLock u =
      (let raw := rawNote (pitchOf tb.device period)
       let v := { soundingUnit tb period atLock u with
         context := .struck { newNote raw (some z.copy) (!atLock) with announced := true }
         queue := u.queue ++ [strikeRecord tb n z raw stamp atLock u] }
       if atLock then glideDecision (tb.strings.get n) stamp v else v) := by
  have offered := offerStrike_of_length_le_six (u := soundingUnit tb period atLock u) accepts room
    (strikeRecord tb n z (rawNote (pitchOf tb.device period)) stamp atLock u)
  rw [strike_of_zone attack found]
  dsimp only
  rw [offered]
  rfl

/-- A STRIKE refused leaves its note unannounced, counted as lost where the queue had no room (R108). -/
theorem strike_refused (refused : u.accepts (tb.strings.get n).outputMode = false) :
    strike tb n period stamp atLock u = { soundingUnit tb period atLock u with
      context := .struck (newNote (rawNote (pitchOf tb.device period)) (some z.copy) (!atLock)) } := by
  have offered := offerStrike_of_not_accepts (u := soundingUnit tb period atLock u) refused
    (strikeRecord tb n z (rawNote (pitchOf tb.device period)) stamp atLock u)
  rw [strike_of_zone attack found]
  dsimp only
  rw [offered]
  cases atLock
  · rfl
  · exact (if_pos rfl).trans (glideDecision_of_quiet rfl (.inl rfl))

theorem strike_lost (accepts : u.accepts (tb.strings.get n).outputMode = true) (full : 7 ≤ u.queue.length) :
    strike tb n period stamp atLock u = { soundingUnit tb period atLock u with
      context := .struck (newNote (rawNote (pitchOf tb.device period)) (some z.copy) (!atLock))
      counters := { u.counters with lost := bump u.counters.lost } } := by
  have offered := offerStrike_of_seven_le_length (u := soundingUnit tb period atLock u) accepts full
    (strikeRecord tb n z (rawNote (pitchOf tb.device period)) stamp atLock u)
  rw [strike_of_zone attack found]
  dsimp only
  rw [offered]
  cases atLock
  · rfl
  · exact (if_pos rfl).trans (glideDecision_of_quiet rfl (.inl rfl))

end

/-- Settles O21: the report is discarded, or its STRIKE finds no zone, joins the queue, or is refused. -/
theorem lockStrikesPendingNote : Obligations.LockStrikesPendingNote := by
  intro n report deadline s
  dsimp only
  intro due
  simp only [exec_lock, takeLock_due due, ← Tracker.takeLock_eq]
  refine ⟨fun left => ?_, fun attack pending unmatched => ?_, fun z attack pending found => ⟨fun accepts room => ?_, fun accepts full => ?_, fun refused => ?_⟩⟩
  · rw [lockReport_discarded (by exact left)]
  · rw [lockReport_pending (by exact attack) (by exact pending), strike_of_no_zone (by exact attack) unmatched]
    rfl
  · rw [lockReport_pending (by exact attack) (by exact pending), strike_admitted (by exact attack) found (by exact accepts) (by exact room)]
    rfl
  · rw [lockReport_pending (by exact attack) (by exact pending), strike_lost (by exact attack) found (by exact accepts) (by exact full)]
    rfl
  · rw [lockReport_pending (by exact attack) (by exact pending), strike_refused (by exact attack) found (by exact refused)]
    rfl

/-- A struck note follows the report of a lock (R95, R96). -/
theorem lockReport_struck {tb : Tables} {n : StringNo} {period : Nat} {stamp : Index} {u : StringUnit} {note : Struck}
    (sounding : u.state = .sounding) (context : u.context = .struck note) :
    lockReport tb n period stamp u = followRaw (tb.strings.get n) (rawNote (pitchOf tb.device period)) stamp note.provisional
      { note with provisional := false } { u with pitch := .tracking (pitchOf tb.device period) (rawNote (pitchOf tb.device period)) } := by
  unfold lockReport
  rw [sounding, context]
  rfl

section
variable {r : StringRecord} {raw : Nat} {stamp : Index} {correction : Bool} {note : Struck} {u : StringUnit}

theorem followRaw_kept (kept : raw = note.held) :
    followRaw r raw stamp correction note u = glideDecision r stamp { u with context := .struck note } := by
  rw [followRaw, if_pos kept]

theorem changeNote_unzoned (unzoned : note.zone = none) :
    changeNote r raw stamp correction note u = { u with context := .struck { note with held := raw } } := by
  simp only [changeNote, unzoned]

theorem changeNote_zoned {z : ZoneCopy} (zone : note.zone = some z) : changeNote r raw stamp correction note u =
    (let v := { u with context := .struck { note with held := raw, output := some (fold (raw + z.transpose)) } }
     if note.announced then offerShift r.outputMode z.channel (fold (raw + z.transpose)) stamp correction v else v) := by
  simp only [changeNote, zone]

theorem followRaw_unzoned (moved : raw ≠ note.held) (unzoned : note.zone = none) :
    followRaw r raw stamp correction note u = { u with context := .struck { note with held := raw } } := by
  rw [followRaw, if_neg moved, changeNote_unzoned unzoned]
  exact glideDecision_of_quiet (note := { note with held := raw }) rfl (.inr unzoned)

theorem followRaw_unannounced {z : ZoneCopy} (moved : raw ≠ note.held) (zone : note.zone = some z) (unannounced : note.announced = false) :
    followRaw r raw stamp correction note u =
      { u with context := .struck { note with held := raw, output := some (fold (raw + z.transpose)) } } := by
  rw [followRaw, if_neg moved, changeNote_zoned zone]
  dsimp only
  rw [if_neg (by simp [unannounced])]
  exact glideDecision_of_quiet (note := { note with held := raw, output := some (fold (raw + z.transpose)) }) rfl (.inl unannounced)

theorem followRaw_announced {z : ZoneCopy} (moved : raw ≠ note.held) (zone : note.zone = some z) (announced : note.announced = true) :
    followRaw r raw stamp correction note u = glideDecision r stamp
      (offerShift r.outputMode z.channel (fold (raw + z.transpose)) stamp correction
        { u with context := .struck { note with held := raw, output := some (fold (raw + z.transpose)) } }) := by
  rw [followRaw, if_neg moved, changeNote_zoned zone]
  dsimp only
  rw [if_pos announced]

end

/-- Settles O22: the held note stands, or moves with or without a zone and with or without a SHIFT. -/
theorem lockSettlesStruckNote : Obligations.LockSettlesStruckNote := by
  intro n report note s
  dsimp only
  intro due sounding context
  simp only [exec_lock, takeLock_due due, ← Tracker.takeLock_eq]
  rw [lockReport_struck (by exact sounding) (by exact context)]
  refine ⟨fun kept => ?_, fun moved unzoned => ?_, fun z moved zone => ⟨fun unannounced => ?_, fun announced => ?_, fun announced accepts room => ?_⟩⟩
  · rw [followRaw_kept (by exact kept)]; rfl
  · rw [followRaw_unzoned (by exact moved) (by exact unzoned)]
  · rw [followRaw_unannounced (by exact moved) (by exact zone) (by exact unannounced)]
  · rw [followRaw_announced (by exact moved) (by exact zone) (by exact announced)]; rfl
  · rw [followRaw_announced (by exact moved) (by exact zone) (by exact announced),
      offerShift_of_length_le_six (by exact accepts) (by exact room)]
    rfl

/-! ### LOCK_LOSS and STALE_CROSSING -/

theorem newestAlone_eq (history : List Nat) : newestAlone history = history.getLast?.toList := by
  rcases List.eq_nil_or_concat history with rfl | ⟨front, newest, rfl⟩
  · rfl
  · simp [newestAlone]

/-- Settles O23: the tracker's items, the counter, and the pitch by its state. -/
theorem lockLossReturnsToSearch : Obligations.LockLossReturnsToSearch := by
  intro n stamp s
  dsimp only
  intro due locked lost pitch held
  rw [exec_lockLoss, takeLockLoss, due]
  dsimp only
  rw [Tracker.takeLockLoss, if_pos ⟨locked, lost⟩, newestAlone_eq, lossReport]
  cases pitched : (s.unit n).pitch <;> simp only [pitched] at held ⊢ <;> subst held
  · simp only [← pitched]; rfl
  · simp only [← pitched]; rfl
  · rfl

/-- Settles O24: a search restart in SEARCH, a miss in LOCKED, the third of which is the loss. -/
theorem staleCrossingClearsHistory : Obligations.StaleCrossingClearsHistory := by
  intro n stamp s
  dsimp only
  intro due reference elapsed
  rw [exec_staleCrossing, takeStale, due]
  dsimp only
  rw [Tracker.takeStale, if_pos ⟨reference, elapsed⟩]
  refine ⟨fun search => ?_, fun locked few => ?_, fun locked many => ?_⟩
  · simp only [outOfRange, search]; rfl
  · simp only [outOfRange, locked, missed]
    rw [show min 3 ((s.unit n).tracker.misses + 1) = (s.unit n).tracker.misses + 1 by omega, if_neg (by omega)]
    rfl
  · simp only [outOfRange, locked, missed]
    rw [show min 3 ((s.unit n).tracker.misses + 1) = 3 by omega, if_pos le_rfl]
    rfl

end Sys2Proof.Machine
end

section
/-! STRIKE_DEADLINE_EXPIRY and the search-pass report: the candidates they read and the STRIKE they make. -/

namespace Sys2Proof.Machine

/-! ### The smallest candidate of a kind -/

theorem CandidateNo.forall_iff {P : CandidateNo → Prop} : (∀ k, P k) ↔ P .k1 ∧ P .k2 ∧ P .k3 ∧ P .k4 := by
  constructor
  · exact fun h => ⟨h _, h _, h _, h _⟩
  · rintro ⟨h1, h2, h3, h4⟩ k
    cases k <;> assumption

theorem Candidates.smallest_eq_some {p : Candidate → Bool} {c : Candidates} {k : CandidateNo} (holds : p (c.get k) = true)
    (below : ∀ j : CandidateNo, j.num < k.num → p (c.get j) = false) : c.smallest p = some k := by
  rw [CandidateNo.forall_iff] at below
  obtain ⟨b1, b2, b3, -⟩ := below
  cases k <;> simp_all [Candidates.smallest, Candidates.get, CandidateNo.num]

theorem Candidates.smallest_eq_none {p : Candidate → Bool} {c : Candidates} (fails : ∀ k, p (c.get k) = false) : c.smallest p = none := by
  obtain ⟨f1, f2, f3, f4⟩ := CandidateNo.forall_iff.mp fails
  simp_all [Candidates.smallest, Candidates.get]

/-- A candidate that is not alive, or has no pass, is no passing one (R53, R54). -/
theorem not_passing {c : Candidate} (h : c.alive = true → c.passes = 0) : (c.alive && decide (1 ≤ c.passes)) = false := by
  cases alive : c.alive
  · rfl
  · simp [h alive]

theorem Candidates.passingSum_eq_none {c : Candidates} (h : ∀ k : CandidateNo, (c.get k).alive = true → (c.get k).passes = 0) :
    c.passingSum = none := by
  rw [Candidates.passingSum, Candidates.smallest_eq_none fun k => not_passing (h k)]

theorem Candidates.passingSum_eq_some {c : Candidates} {k : CandidateNo} {sum : Nat} (alive : (c.get k).alive = true)
    (passes : 1 ≤ (c.get k).passes) (last : (c.get k).lastSum = some sum)
    (below : ∀ j : CandidateNo, j.num < k.num → (c.get j).alive = true → (c.get j).passes = 0) : c.passingSum = some sum := by
  rw [Candidates.passingSum, Candidates.smallest_eq_some (k := k) (by simp [alive, passes]) fun j less => not_passing (below j less)]
  exact last

/-! ### A lock report leaves the due steps -/

theorem changeNote_due (r : StringRecord) (raw : Nat) (stamp : Index) (correction : Bool) (note : Struck) (u : StringUnit) :
    (changeNote r raw stamp correction note u).due = u.due := by
  cases zone : note.zone with
  | none => rw [changeNote_unzoned zone]
  | some z =>
    rw [changeNote_zoned zone]
    dsimp only
    split
    · exact offerShift_due ..
    · rfl

theorem followRaw_due (r : StringRecord) (raw : Nat) (stamp : Index) (correction : Bool) (note : Struck) (u : StringUnit) :
    (followRaw r raw stamp correction note u).due = u.due := by
  unfold followRaw
  rw [glideDecision_due]
  split
  · rfl
  · exact changeNote_due ..

theorem strike_due (tb : Tables) (n : StringNo) (period : Nat) (stamp : Index) (atLock : Bool) (u : StringUnit) :
    (strike tb n period stamp atLock u).due = u.due := by
  rcases strike_cases tb n period u with left | ⟨attack, unmatched⟩ | ⟨attack, z, found⟩
  · rw [strike_of_not_attack left]
  · rw [strike_of_no_zone attack unmatched]; rfl
  · rw [strike_of_zone attack found]
    dsimp only
    split
    · exact (glideDecision_due ..).trans (offerStrike_due ..)
    · exact offerStrike_due ..

theorem lockReport_due (tb : Tables) (n : StringNo) (period : Nat) (stamp : Index) (u : StringUnit) :
    (lockReport tb n period stamp u).due = u.due := by
  unfold lockReport
  split
  · split
    · rfl
    · exact strike_due ..
    · exact followRaw_due ..
  · rfl

theorem takeLock_of_none {tb : Tables} {n : StringNo} {u : StringUnit} (due : u.due.lock = none) : takeLock tb n u = u := by
  simp only [takeLock, due]

theorem takeLock_takes_due (tb : Tables) (n : StringNo) (u : StringUnit) : (takeLock tb n u).due = { u.due with lock := none } := by
  cases due : u.due.lock with
  | none =>
    rw [takeLock_of_none due, ← due]
  | some report => rw [takeLock_due due, lockReport_due]

/-! ### The expiry and the search-pass report -/

theorem takeExpiry_due {tb : Tables} {n : StringNo} {u : StringUnit} {stamp : Index} (expiry : u.due.expiry = some stamp)
    (lock : u.due.lock = none) : takeExpiry tb n u = expireDeadline tb n stamp { u with due := { u.due with expiry := none } } := by
  simp only [takeExpiry, expiry, takeLock_of_none lock]

/-- The expiry takes a lock that is due first (log 21). -/
theorem takeExpiry_takeLock {tb : Tables} {n : StringNo} {u : StringUnit} : takeExpiry tb n (takeLock tb n u) = takeExpiry tb n u ∨
    u.due.expiry = none := by
  cases expiry : u.due.expiry with
  | none => exact .inr rfl
  | some stamp =>
    have due := takeLock_takes_due tb n u
    have taken : (takeLock tb n u).due.expiry = some stamp := by rw [due]; exact expiry
    have locked : (takeLock tb n u).due.lock = none := by rw [due]
    rw [takeExpiry_due taken locked]
    simp only [takeExpiry, expiry, true_or]

theorem expireDeadline_of_not_out {tb : Tables} {n : StringNo} {stamp : Index} {u : StringUnit} (h : u.context ≠ .pending (.running 0)) :
    expireDeadline tb n stamp u = u := by
  unfold expireDeadline
  split
  · next context => exact absurd context h
  · rfl

theorem searchPassReport_waiting {tb : Tables} {n : StringNo} {sum : Nat} {stamp : Index} {u : StringUnit}
    (waiting : u.context = .pending .waiting) : searchPassReport tb n sum stamp u = strike tb n (256 * sum) stamp false u := by
  simp only [searchPassReport, waiting]

theorem searchPassReport_of_not_waiting {tb : Tables} {n : StringNo} {sum : Nat} {stamp : Index} {u : StringUnit}
    (h : u.context ≠ .pending .waiting) : searchPassReport tb n sum stamp u = u := by
  unfold searchPassReport
  split
  · next context => exact absurd context h
  · rfl

theorem exec_lock_strikeDeadlineExpiry {n : StringNo} {s t : State} {stamp : Index} (due : (s.unit n).due.expiry = some stamp)
    (h : exec (.lock n) s = .next t) : exec (.strikeDeadlineExpiry n) t = exec (.strikeDeadlineExpiry n) s := by
  rw [exec_lock] at h
  cases h
  rw [exec_strikeDeadlineExpiry, exec_strikeDeadlineExpiry, State.setUnit_setUnit]
  simp only [State.unit_setUnit_self]
  rcases takeExpiry_takeLock (tb := s.tables) (n := n) (u := s.unit n) with e | none_due
  · rw [State.setUnit_tables, e]
  · rw [none_due] at due; cases due

/-- Settles O25: the candidates the expiry reads, then the four outcomes of a provisional STRIKE. -/
theorem deadlineExpiryStrikesOrWaits : Obligations.DeadlineExpiryStrikesOrWaits := by
  intro n stamp s
  dsimp only
  refine ⟨fun expiry lock context => ⟨fun unpassed => ?_, fun k sum alive passes last below attack => ?_⟩,
    fun expiry lock context => ?_, fun expiry _ t t' first second => ?_, fun sum report => ⟨fun waiting attack => ?_, fun discarded => ?_⟩⟩
  · rw [exec_strikeDeadlineExpiry, takeExpiry_due expiry lock, expireDeadline]
    simp only [context, Candidates.passingSum_eq_none unpassed]
  · rw [exec_strikeDeadlineExpiry, takeExpiry_due expiry lock, expireDeadline]
    simp only [context, Candidates.passingSum_eq_some alive passes last below]
    refine ⟨fun unmatched => ?_, fun z found => ⟨fun accepts room => ?_, fun accepts full => ?_, fun refused => ?_⟩⟩
    · rw [strike_of_no_zone (by exact attack) unmatched]; rfl
    · rw [strike_admitted (by exact attack) found (by exact accepts) (by exact room)]; rfl
    · rw [strike_lost (by exact attack) found (by exact accepts) (by exact full)]; rfl
    · rw [strike_refused (by exact attack) found (by exact refused)]; rfl
  · rw [exec_strikeDeadlineExpiry, takeExpiry_due expiry lock, expireDeadline_of_not_out (by exact context)]
  · rw [← exec_lock_strikeDeadlineExpiry expiry first, second]
  · simp only [takeReport, report]
    rw [searchPassReport_waiting (by exact waiting)]
    refine ⟨fun unmatched => ?_, fun z found => ⟨fun accepts room => ?_, fun accepts full => ?_, fun refused => ?_⟩⟩
    · rw [strike_of_no_zone (by exact attack) unmatched]; rfl
    · rw [strike_admitted (by exact attack) found (by exact accepts) (by exact room)]; rfl
    · rw [strike_lost (by exact attack) found (by exact accepts) (by exact full)]; rfl
    · rw [strike_refused (by exact attack) found (by exact refused)]; rfl
  · simp only [takeReport, report]
    exact searchPassReport_of_not_waiting discarded

end Sys2Proof.Machine
end

section
/-! The fault steps of a string, the fault monitor's runs and windows, and the steps that are not due. -/

namespace Sys2Proof.Machine

/-! ### The forced end of a note, by the string's state -/

section
variable {mode : OutputMode} {stamp : Index} {cause : LiftCause} {u : StringUnit}

theorem endForced_of_not_tracked (quiet : u.state.tracked = false) : endForced mode stamp cause u = u := by
  unfold endForced
  split
  · next sounding => rw [sounding] at quiet; cases quiet
  · next attack => rw [attack] at quiet; cases quiet
  all_goals rfl

theorem endForced_attack (attack : u.state = .attack) : endForced mode stamp cause u = u.clearContext := by
  simp only [endForced, attack]

theorem endForced_sounding (sounding : u.state = .sounding) : endForced mode stamp cause u = endNote mode stamp cause u := by
  simp only [endForced, sounding]

end

/-! ### FAULT_ENTRY -/

section
variable {r : StringRecord} {u : StringUnit} {cause : Cause} {stamp : Index}

theorem faultEntryUnit_taken (due : u.due.fault = some (cause, stamp))
    (takes : u.state = .idle ∨ u.state = .attack ∨ u.state = .sounding ∨ u.state = .damped) :
    faultEntryUnit r u = enterFault r cause stamp { u with due := { u.due with fault := none } } := by
  unfold faultEntryUnit
  rw [due]
  rcases takes with state | state | state | state <;> rw [state]

theorem faultEntryUnit_discarded (due : u.due.fault = some (cause, stamp)) (left : u.state = .off ∨ u.state.faulted = true) :
    faultEntryUnit r u = { u with due := { u.due with fault := none } } := by
  unfold faultEntryUnit
  rw [due]
  cases state : u.state <;> simp_all [StringState.faulted]

theorem eventNotice_faultEntry_taken {n : StringNo} (due : u.due.fault = some (cause, stamp))
    (takes : u.state = .idle ∨ u.state = .attack ∨ u.state = .sounding ∨ u.state = .damped) :
    eventNotice n .faultEntry u = some (.fault n cause) := by
  rcases takes with state | state | state | state <;> simp only [eventNotice, state, due] <;> rfl

theorem eventNotice_faultEntry_discarded {n : StringNo} (left : u.state = .off ∨ u.state.faulted = true) :
    eventNotice n .faultEntry u = none := by
  cases state : u.state <;> simp_all [eventNotice, StringState.faulted]

end

theorem exec_faultEntry_taken {n : StringNo} {cause : Cause} {stamp : Index} {s : State} (due : (s.unit n).due.fault = some (cause, stamp))
    (takes : (s.unit n).state = .idle ∨ (s.unit n).state = .attack ∨ (s.unit n).state = .sounding ∨ (s.unit n).state = .damped) :
    exec (.faultEntry n) s = .next ((s.setUnit n
      (enterFault (s.record n) cause stamp { s.unit n with due := { (s.unit n).due with fault := none } })).offerNotice (.fault n cause)) := by
  rw [exec_faultEntry, faultEntryUnit_taken due takes, eventNotice_faultEntry_taken due takes]
  rfl

/-- Settles O26: by the state the entry finds the string in, and by what its note hands over. -/
theorem faultEntryTakenOrDiscarded : Obligations.FaultEntryTakenOrDiscarded := by
  intro n cause stamp s
  dsimp only
  intro due
  refine ⟨fun quiet => ?_, fun attack => ?_, fun note sounding context silent => ?_, fun note sounding context announced accepts room => ?_,
    fun left => ?_⟩
  · rw [exec_faultEntry_taken due (by tauto), enterFault, endForced_of_not_tracked (by rcases quiet with e | e <;> rw [e] <;> rfl)]
    rfl
  · rw [exec_faultEntry_taken due (by tauto), enterFault, endForced_attack (by exact attack)]
    rfl
  · rw [exec_faultEntry_taken due (by tauto), enterFault, endForced_sounding (by exact sounding),
      endNote_silent (note := note) _ _ (by exact context) (by exact silent)]
    rfl
  · rw [exec_faultEntry_taken due (by tauto), enterFault, endForced_sounding (by exact sounding),
      endNote_lifted (note := note) _ _ (by exact context) announced (by exact accepts) (by exact room)]
    rfl
  · rw [exec_faultEntry, faultEntryUnit_discarded due left, eventNotice_faultEntry_discarded left]
    rfl

/-! ### Runs, conditions and windows -/

section
variable {r : StringRecord} {m : Monitor}

theorem conditionPresent_converter (seen : m.flagSeen = true) : conditionPresent r m = some .converter := if_pos seen

theorem conditionPresent_clip (unseen : m.flagSeen = false) (clips : r.clipCount ≤ m.clipRun) : conditionPresent r m = some .clip := by
  rw [conditionPresent, if_neg (by simp [unseen]), if_pos clips]

theorem conditionPresent_stuck (unseen : m.flagSeen = false) (below : m.clipRun < r.clipCount) (stuck : 256 * r.stuckCount ≤ m.stuckRun) :
    conditionPresent r m = some .stuck := by
  rw [conditionPresent, if_neg (by simp [unseen]), if_neg (by omega), if_pos stuck]

theorem conditionPresent_none (unseen : m.flagSeen = false) (below : m.clipRun < r.clipCount) (moving : m.stuckRun < 256 * r.stuckCount) :
    conditionPresent r m = none := by
  rw [conditionPresent, if_neg (by simp [unseen]), if_neg (by omega), if_neg (by omega)]

end

/-- A timer counted down stands at 0 where it stood at 1 or less. -/
theorem decide_pred_eq_zero (timer : Nat) : decide (timer - 1 = 0) = decide (timer ≤ 1) := decide_eq_decide.mpr (by omega)

/-- Settles O27: the runs and conditions as computed, the two steps at their ends, and the frames of the windows. -/
theorem faultWindowsAndRecovery : Obligations.FaultWindowsAndRecovery := by
  refine ⟨fun r x channelError m => ⟨rfl, conditionPresent_converter, conditionPresent_clip, conditionPresent_stuck, conditionPresent_none⟩,
    fun n s due waits elapsed => ?_, fun n s due tests elapsed => ?_, fun r x channelError stamp u => ?_⟩
  · rw [exec_faultWaitEnd, takeWaitEnd, if_pos due]
    dsimp only
    rw [if_pos ⟨waits, elapsed⟩]
  · rw [exec_recovery, recoveryUnit, if_pos due, eventNotice]
    dsimp only
    rw [if_pos ⟨tests, elapsed⟩, if_pos ⟨due, tests, elapsed⟩]
    rfl
  · dsimp only
    refine ⟨fun off => ?_, fun latched => ?_, fun active => ?_, fun waits => ?_, fun tests cause present => ?_, fun tests absent => ?_⟩
    · simp only [monitorSample, off]
    · simp only [monitorSample, latched]
    · rcases active with state | state | state | state <;> simp only [monitorSample, state]
    · simp only [monitorSample, waits, countWait, decide_pred_eq_zero]
      rfl
    · simp only [monitorSample, tests, judgeTest, present]
      rfl
    · simp only [monitorSample, tests, judgeTest, absent, decide_pred_eq_zero]
      rfl

/-! ### Steps not due -/

theorem exec_transmissionComplete (s : State) : exec .transmissionComplete s = .next s.complete := rfl

theorem State.complete_of_not_due {s : State} (idle : ¬ s.tx.CompletionDue) : s.complete = s := by
  unfold Transmitter.CompletionDue at idle
  unfold State.complete
  split
  · next m sending =>
    rw [if_neg fun ended => idle ⟨m, sending, ended⟩]
  · rfl
  · rfl

theorem State.complete_of_due {s : State} {m : InFlight} (sending : s.tx.state = .sending m) (ended : m.bytes.length ≤ m.position) :
    s.complete = (s.completeItem m.item).setTx .ready := by
  unfold State.complete
  rw [sending]
  exact if_pos ended

/-- Settles O28: a step that is not due leaves its string's unit, and offers nothing. -/
theorem stepsNotDueDoNothing : Obligations.StepsNotDueDoNothing := by
  intro n s
  refine ⟨fun h => ?_, fun h => ?_, fun h => ?_, fun h => ?_, fun h => ?_, fun h => ?_, fun h => ?_, fun h => ?_, fun h => ?_, fun h => ?_⟩
  · rw [exec_release, takeRelease, h, State.setUnit_unit]
  · rw [exec_strikeDeadlineExpiry, takeExpiry, h, State.setUnit_unit]
  · rw [exec_dampExit, takeDampExit, h, if_neg Bool.false_ne_true, State.setUnit_unit]
  · rw [exec_staleCrossing, takeStale, h, State.setUnit_unit]
  · rw [exec_lockLoss, takeLockLoss, h, State.setUnit_unit]
  · rw [exec_lock, takeLock_of_none h, State.setUnit_unit]
  · have quiet : eventNotice n .faultEntry (s.unit n) = none := by
      simp only [eventNotice, h, Option.map_none]
      split <;> rfl
    rw [exec_faultEntry, faultEntryUnit, h, quiet, State.setUnit_unit]
    rfl
  · rw [exec_faultWaitEnd, takeWaitEnd, h, if_neg Bool.false_ne_true, State.setUnit_unit]
  · rw [exec_recovery, recoveryUnit, eventNotice, h, if_neg Bool.false_ne_true, if_neg (by simp), State.setUnit_unit]
    rfl
  · rw [exec_transmissionComplete, State.complete_of_not_due h]

end Sys2Proof.Machine
end

section
/-! The zone search, the fold and the velocity of a STRIKE, and the continuous values. -/

namespace Sys2Proof.Machine

/-! ### The zone search (R85) -/

/-- The link that follows a record of the chain (R85). -/
def nextZone (zones : Vector ZoneRecord 32) (link : Option (Fin 32)) : Option (Fin 32) := link.bind fun i => (zones.get i).next

section
variable {zones : Vector ZoneRecord 32} {raw : Nat}

theorem iterate_nextZone_none (k : Nat) : (nextZone zones)^[k] none = none := Function.iterate_fixed rfl k

theorem iterate_nextZone_some (i : Fin 32) (k : Nat) : (nextZone zones)^[k + 1] (some i) = (nextZone zones)^[k] (zones.get i).next := rfl

theorem zoneSearchFrom_none (visits : Nat) : zoneSearchFrom zones raw visits none = none := by cases visits <;> rfl

theorem zoneSearchFrom_hit {i : Fin 32} (hit : (zones.get i).low ≤ raw ∧ raw ≤ (zones.get i).high) (visits : Nat) :
    zoneSearchFrom zones raw (visits + 1) (some i) = some (zones.get i) := if_pos hit

theorem zoneSearchFrom_pass {i : Fin 32} (pass : ¬ ((zones.get i).low ≤ raw ∧ raw ≤ (zones.get i).high)) (visits : Nat) :
    zoneSearchFrom zones raw (visits + 1) (some i) = zoneSearchFrom zones raw visits (zones.get i).next := if_neg pass

theorem zoneSearchFrom_eq_none_iff (visits : Nat) (link : Option (Fin 32)) :
    zoneSearchFrom zones raw visits link = none ↔
      ∀ k < visits, ∀ i, (nextZone zones)^[k] link = some i → ¬ ((zones.get i).low ≤ raw ∧ raw ≤ (zones.get i).high) := by
  induction visits generalizing link with
  | zero => exact ⟨fun _ k less => absurd less (Nat.not_lt_zero k), fun _ => rfl⟩
  | succ visits ih =>
    cases link with
    | none => simp [zoneSearchFrom_none, iterate_nextZone_none]
    | some i =>
      rw [Nat.forall_lt_succ_left]
      simp only [iterate_nextZone_some, Function.iterate_zero, id_eq, Option.some.injEq, forall_eq']
      by_cases hit : (zones.get i).low ≤ raw ∧ raw ≤ (zones.get i).high
      · simp [zoneSearchFrom_hit hit, hit]
      · simp [zoneSearchFrom_pass hit, hit, ih]

theorem zoneSearchFrom_eq_some_iff (visits : Nat) (link : Option (Fin 32)) (z : ZoneRecord) :
    zoneSearchFrom zones raw visits link = some z ↔
      ∃ k < visits, ∃ i, (nextZone zones)^[k] link = some i ∧ zones.get i = z ∧ (z.low ≤ raw ∧ raw ≤ z.high) ∧
        ∀ j < k, ∀ i', (nextZone zones)^[j] link = some i' → ¬ ((zones.get i').low ≤ raw ∧ raw ≤ (zones.get i').high) := by
  induction visits generalizing link with
  | zero => simp [zoneSearchFrom]
  | succ visits ih =>
    cases link with
    | none => simp [zoneSearchFrom_none, iterate_nextZone_none]
    | some i =>
      rw [Nat.exists_lt_succ_left]
      simp only [Nat.forall_lt_succ_left, iterate_nextZone_some, Function.iterate_zero, id_eq, Option.some.injEq, forall_eq',
        exists_eq_left', Nat.not_lt_zero, false_imp_iff, implies_true, and_true]
      by_cases hit : (zones.get i).low ≤ raw ∧ raw ≤ (zones.get i).high
      · rw [zoneSearchFrom_hit hit]
        constructor
        · intro e
          cases e
          exact .inl ⟨rfl, hit⟩
        · rintro (⟨e, -⟩ | ⟨_, _, _, _, _, _, pass, _⟩)
          · rw [e]
          · exact absurd hit pass
      · rw [zoneSearchFrom_pass hit, ih]
        constructor
        · rintro ⟨k, less, i', visit, e, hits, before⟩
          exact .inr ⟨k, less, i', visit, e, hits, hit, before⟩
        · rintro (⟨e, hits⟩ | ⟨k, less, i', visit, e, hits, -, before⟩)
          · exact absurd (e ▸ hits) hit
          · exact ⟨k, less, i', visit, e, hits, before⟩

end

/-- Settles O33, by the induction over the visits. -/
theorem zoneSearchFindsFirstMatch : Obligations.ZoneSearchFindsFirstMatch := by
  intro zones head raw
  exact ⟨fun z => zoneSearchFrom_eq_some_iff 32 head z, zoneSearchFrom_eq_none_iff 32 head⟩

/-! ### The fold and the velocity (R87, R88) -/

theorem fold_negative {v : Int} (h : v < 0) : (fold v : Int) = v % 12 := by
  rw [fold, if_pos h]
  omega

theorem fold_middle {v : Int} (low : 0 ≤ v) (high : v ≤ 127) : (fold v : Int) = v := by
  rw [fold, if_neg (by omega), if_neg (by omega)]
  omega

theorem fold_high {v : Int} (h : 127 < v) : (fold v : Int) = v - 12 * ((v - 127 + 11) / 12) := by
  rw [fold, if_neg (by omega), if_pos h]
  omega

theorem dvd_sub_fold (v : Int) : (12 : Int) ∣ v - fold v := by
  rcases lt_or_ge v 0 with negative | nonnegative
  · rw [fold_negative negative]; omega
  · rcases le_or_gt v 127 with middle | high
    · rw [fold_middle nonnegative middle]; omega
    · rw [fold_high high]; omega

theorem roundAway_of_nonneg {a : Int} (h : 0 ≤ a) {b : Nat} (hb : 0 < b) : roundAway a b = ⌊(a : ℚ) / b + 1 / 2⌋ := by
  lift a to Nat using h
  rw [roundAway, if_pos (Int.natCast_nonneg a), Int.cast_natCast, floor_div_add_half a hb]

theorem roundAway_nonneg {a : Int} (h : 0 ≤ a) (b : Nat) : 0 ≤ roundAway a b := by
  rw [roundAway, if_pos h]
  exact Int.ediv_nonneg (by omega) (by omega)

theorem roundAway_mul_self (c : Nat) {d : Nat} (hd : 0 < d) : roundAway ((c : Int) * d) d = c := by
  have between := roundAway_between (lo := c) (hi := c) (a := (c : Int) * d) hd (by omega) le_rfl le_rfl
  omega

theorem velocity_of_le_attach {attach span peak : Nat} (curve : Curve) (below : attach < span) (h : peak ≤ attach) :
    velocity attach span peak curve = curve[0] := by
  have start : peak - attach = 0 := by omega
  have first := roundAway_mul_self curve[0] (show 0 < span - attach by omega)
  have entry : curve[0]?.getD 0 = curve[0] := by simp
  simp only [velocity, start, Nat.zero_mul, Nat.zero_div, Nat.zero_mod, entry]
  rw [if_neg (by omega), Int.natCast_zero, mul_zero, add_zero, first, Int.toNat_natCast]

theorem velocity_of_span_le {attach span peak : Nat} (curve : Curve) (below : attach < span) (h : span ≤ peak) :
    velocity attach span peak curve = curve[15] := by
  rw [velocity]
  dsimp only
  rw [if_pos (by omega), if_neg (by omega)]

/-- Between A and S the velocity rounds the interpolated entry of its segment (R88). -/
theorem velocity_interpolated {attach span peak i : Nat} (curve : Curve) (h : i < 15) (low : attach ≤ peak) (high : peak < span)
    (segment : (peak - attach) * 15 / (span - attach) = i) :
    (velocity attach span peak curve : Int) =
      ⌊(curve[i] : ℚ) + ((curve[i + 1] : ℚ) - (curve[i] : ℚ)) *
        (((peak - attach) * 15 % (span - attach) : Nat) / ((span - attach : Nat) : ℚ)) + 1 / 2⌋ := by
  have entry : ∀ j (hj : j < 16), curve[j]?.getD 0 = curve[j] := fun j hj => by simp [hj]
  unfold velocity
  dsimp only
  rw [if_neg (by omega), segment, entry i (by omega), entry (i + 1) (by omega)]
  have den : 0 < span - attach := by omega
  have rest : (peak - attach) * 15 % (span - attach) < span - attach := Nat.mod_lt _ den
  generalize span - attach = d at den rest ⊢
  generalize (peak - attach) * 15 % d = rem at rest ⊢
  have value_nonneg : 0 ≤ (curve[i] : Int) * d + ((curve[i + 1] : Int) - curve[i]) * rem := by
    have weights : (curve[i] : Int) * d + ((curve[i + 1] : Int) - curve[i]) * rem = curve[i] * (d - rem : Int) + curve[i + 1] * rem := by ring
    rw [weights]
    exact add_nonneg (mul_nonneg (by omega) (by omega)) (mul_nonneg (by omega) (by omega))
  rw [Int.toNat_of_nonneg (roundAway_nonneg value_nonneg d), roundAway_of_nonneg value_nonneg den]
  congr 2
  push_cast
  field_simp

/-- A quotient in one unit interval is its integer part and its remainder's share. -/
theorem segment_and_rest {p d i : Nat} (positive : 0 < d) (above : (i : ℚ) ≤ p / d) (under : (p / d : ℚ) < i + 1) :
    p / d = i ∧ (p / d : ℚ) - i = (p % d : Nat) / (d : ℚ) := by
  have den : (0 : ℚ) < d := by exact_mod_cast positive
  rw [le_div_iff₀ den] at above
  rw [div_lt_iff₀ den] at under
  have segment : p / d = i := Nat.div_eq_of_lt_le (by exact_mod_cast above) (by exact_mod_cast under)
  have parts : (p : ℚ) = d * i + (p % d : Nat) := by
    rw [← segment]
    exact_mod_cast (Nat.div_add_mod p d).symm
  refine ⟨segment, ?_⟩
  rw [sub_eq_iff_eq_add, parts]
  field_simp
  ring

/-- Settles O34: the closed form of the fold, and the curve at its ends and between its entries. -/
theorem foldAndVelocity : Obligations.FoldAndVelocity := by
  refine ⟨fun v => ⟨fold_le v, dvd_sub_fold v, fold_middle, fun negative => ?_, fun high => ?_⟩,
    fun attach span peak curve below => ⟨velocity_of_le_attach curve below, velocity_of_span_le curve below, fun low high i h => ?_⟩⟩
  · have := fold_negative negative; omega
  · have := fold_high high; omega
  · intro x above under
    have quotient : x = ((peak - attach) * 15 : Nat) / ((span - attach : Nat) : ℚ) := by
      simp only [x]
      push_cast [Nat.cast_sub low, Nat.cast_sub below.le]
      rfl
    obtain ⟨segment, rest⟩ := segment_and_rest (show 0 < span - attach by omega) (quotient ▸ above) (quotient ▸ under)
    rw [velocity_interpolated curve h low high segment, ← rest, quotient]

end Sys2Proof.Machine
end

section
/-! The continuous values, the notice queue and the elastic store. -/

namespace Sys2Proof.Machine

/-! ### GLIDE and PRESS (R98 to R100) -/

section
variable {r : StringRecord} {stamp : Index} {note : Struck} {z : ZoneCopy} {q raw : Nat} {u : StringUnit}
  (context : u.context = .struck note) (zone : note.zone = some z)
include context zone

theorem glideDecision_tracking (tracking : u.pitch = .tracking q raw) : glideDecision r stamp u =
    if note.announced ∧ note.glideTimer = 0 ∧ r.glideStep ≤ ((glideValue z q note.held).1 - note.lastGlide).natAbs then
      offerGlide r.outputMode ⟨z.channel, (glideValue z q note.held).1, stamp, (glideValue z q note.held).2⟩
        { u with context := .struck { note with lastGlide := (glideValue z q note.held).1, glideTimer := r.glideInterval } }
    else u := by
  simp only [glideDecision, context, tracking, zone]

theorem pressDecision_tracking (tracking : u.pitch = .tracking q raw) (level : Nat) : pressDecision r level stamp u =
    if note.announced ∧ r.pressInterval ≠ 0 ∧ note.pressTimer = 0 ∧ 2 ≤ ((level : Int) - note.lastPress).natAbs then
      offerPress r.outputMode ⟨z.channel, level, stamp⟩
        { u with context := .struck { note with lastPress := level, pressTimer := r.pressInterval } }
    else u := by
  simp only [pressDecision, context, tracking, zone]

end

theorem offerGlide_taken {mode : OutputMode} {u : StringUnit} (accepts : u.accepts mode = true) (g : Glide) :
    offerGlide mode g u = { u with glide := some g } := if_neg (by simp [accepts])

theorem offerGlide_refused {mode : OutputMode} {u : StringUnit} (refused : u.accepts mode = false) (g : Glide) :
    offerGlide mode g u = u := if_pos refused

theorem offerPress_taken {mode : OutputMode} {u : StringUnit} (accepts : u.accepts mode = true) (p : Press) :
    offerPress mode p u = { u with press := some p } := if_neg (by simp [accepts])

theorem offerPress_refused {mode : OutputMode} {u : StringUnit} (refused : u.accepts mode = false) (p : Press) :
    offerPress mode p u = u := if_pos refused

/-- A value is clamped exactly where the clamp changes it. -/
theorem clamped_iff {lo hi v : Int} (h : lo ≤ hi) : decide (v < lo ∨ hi < v) = decide (max lo (min hi v) ≠ v) :=
  decide_eq_decide.mpr (by omega)

theorem glideValue_eq (z : ZoneCopy) (q held : Nat) : glideValue z q held =
    (max (-(64 * z.bendRange : Int)) (min (64 * z.bendRange) ((q : Int) - 64 * held)),
      decide (max (-(64 * z.bendRange : Int)) (min (64 * z.bendRange) ((q : Int) - 64 * held)) ≠ (q : Int) - 64 * held)) := by
  rw [← clamped_iff (by omega)]
  rfl

/-- Settles O35: a decision offers exactly when it is due, and the slot takes the offer or not. -/
theorem continuousValuesDue : Obligations.ContinuousValuesDue := by
  intro r stamp note z q raw u context zone
  dsimp only
  refine ⟨fun tracking => ?_, fun tracking level => ?_, fun held => ?_⟩
  · rw [glideDecision_tracking context zone tracking, glideValue_eq]
    refine ⟨fun due accepts => ?_, fun due refused => ?_, fun idle => if_neg idle⟩
    · rw [if_pos due, offerGlide_taken (by exact accepts)]
    · rw [if_pos due, offerGlide_refused (by exact refused)]
  · rw [pressDecision_tracking context zone tracking]
    refine ⟨fun due accepts => ?_, fun due refused => ?_, fun idle => if_neg idle⟩
    · rw [if_pos due, offerPress_taken (by exact accepts)]
    · rw [if_pos due, offerPress_refused (by exact refused)]
  · simp [glideDecision, pressDecision, context, held]

/-! ### The notice queue (R117) -/

section
variable {s : State} {notice : Notice}

theorem State.offerNotice_masked (masked : s.tables.device.enables notice = false) : s.offerNotice notice = s := if_neg (by simp [masked])

theorem State.offerNotice_joins (enabled : s.tables.device.enables notice = true) (room : s.tx.notices.length ≤ 7) :
    s.offerNotice notice = { s with tx := { s.tx with notices := s.tx.notices ++ [notice] } } := by
  rw [State.offerNotice, if_pos enabled, if_pos room]

theorem State.offerNotice_lost (enabled : s.tables.device.enables notice = true) (full : 8 ≤ s.tx.notices.length) :
    s.offerNotice notice = { s with link := { s.link with noticesLost := bump s.link.noticesLost } } := by
  rw [State.offerNotice, if_pos enabled, if_neg (by omega)]

end

/-- Settles O37, by the kind of the notice. -/
theorem noticeQueueAdmission : Obligations.NoticeQueueAdmission := by
  intro s notice
  cases notice <;> exact ⟨fun masked => State.offerNotice_masked (by exact masked), fun enabled => State.offerNotice_joins (by exact enabled),
    fun enabled => State.offerNotice_lost (by exact enabled)⟩

/-! ### The elastic store (R150 to R153) -/

section
variable {record : FrameRecord} {st : Store}

theorem Store.accept_discards (halted : st.state = .halted) : st.accept record = (st, none) := by
  simp only [Store.accept, halted]

theorem Store.accept_prefill (prefill : st.state = .prefill) :
    st.accept record = ({ Store.put record st with state := if st.fill = 15 then .flowing else .prefill }, none) := by
  simp only [Store.accept, prefill, Store.put, Nat.reduceEqDiff]
  split <;> rfl

theorem Store.accept_flowing (flowing : st.state = .flowing) (room : st.fill ≤ 29) : st.accept record = (Store.put record st, none) := by
  simp only [Store.accept, flowing]
  rw [if_neg (by omega)]

theorem Store.accept_drop (flowing : st.state = .flowing) (full : st.fill = 30) :
    st.accept record = (Store.put record { st with read := advance st.read 15, fill := 15 }, some 15) := by
  simp only [Store.accept, flowing, full, Store.dropSlip]
  rfl

theorem Store.readOut_flowing (flowing : st.state = .flowing) (filled : 3 ≤ st.fill) :
    st.readOut = ⟨st.take.1, st.take.2, false, none⟩ := by
  simp only [Store.readOut, flowing]
  rw [if_neg (by omega), if_neg (by omega)]

theorem Store.readOut_repeat (flowing : st.state = .flowing) (low : st.fill ≤ 2) :
    st.readOut = ⟨st.repeatSlip.take.1, st.repeatSlip.take.2, false, some (16 - st.fill)⟩ := by
  simp only [Store.readOut, flowing]
  rw [if_pos low, if_pos low]

end

/-- The position a REPEAT slip goes back to, from the one it counts forward to. -/
theorem retreat_eq {position back : Fin 32} {k : Nat} (small : k ≤ 32) (forward : (back.val + k) % 32 = position.val) :
    retreat position k = back := by
  apply Fin.ext
  have := back.isLt
  simp only [retreat, Fin.ofNat]
  omega

/-- Settles O38, by the store's state and its fill. -/
theorem storeWritesReadsAndSlips : Obligations.StoreWritesReadsAndSlips := by
  intro record st
  dsimp only
  refine ⟨Store.accept_discards, fun prefill => ⟨Store.accept_prefill prefill, ?_⟩, fun flowing => ⟨Store.accept_flowing flowing,
    Store.accept_drop flowing, Store.readOut_flowing flowing, fun low back forward => ?_⟩⟩
  · simp only [Store.readOut, prefill]
    rfl
  · rw [Store.readOut_repeat flowing low, Store.repeatSlip, retreat_eq (by omega) forward]
    rfl

end Sys2Proof.Machine
end

section
/-! The period tracker: its front end, counted crossings, the search and the measurements in LOCKED. -/

namespace Sys2Proof.Machine

/-! ### The detector (R44) -/

section
variable {h : Nat} {t : Tracker}

theorem detect_disarmed (disarmed : t.detector = .disarmed) :
    detect h t = (if t.l ≤ -(h : Int) then ({ t with detector := .armed, zeroSinceArmed := false }, false) else (t, false)) := by
  simp only [detect, disarmed]

theorem detect_armed (armed : t.detector = .armed) :
    detect h t = (if (h : Int) ≤ t.l ∧ t.zeroSinceArmed then ({ t with detector := .disarmed }, true) else (t, false)) := by
  simp only [detect, armed]

/-- A counted crossing disarms an ARMED detector; nothing else is counted. -/
theorem detect_counts (counted : (detect h t).2 = true) :
    t.detector = .armed ∧ ((h : Int) ≤ t.l ∧ t.zeroSinceArmed = true) ∧ (detect h t).1 = { t with detector := .disarmed } := by
  cases detector : t.detector with
  | disarmed =>
    rw [detect_disarmed detector] at counted
    split at counted <;> cases counted
  | armed =>
    rw [detect_armed detector] at counted ⊢
    by_cases cross : (h : Int) ≤ t.l ∧ t.zeroSinceArmed = true
    · exact ⟨rfl, cross, by rw [if_pos cross]⟩
    · rw [if_neg cross] at counted; cases counted

theorem detect_counts_iff : (detect h t).2 = true ↔ t.detector = .armed ∧ (h : Int) ≤ t.l ∧ t.zeroSinceArmed = true := by
  refine ⟨fun counted => ⟨(detect_counts counted).1, (detect_counts counted).2.1⟩, fun ⟨armed, cross⟩ => ?_⟩
  rw [detect_armed armed, if_pos cross]

theorem detect_armed_quiet (armed : t.detector = .armed) (uncounted : (detect h t).2 = false) : (detect h t).1 = t := by
  rw [detect_armed armed] at uncounted ⊢
  split
  · next cross => rw [if_pos cross] at uncounted; cases uncounted
  · rfl

theorem detect_arms (disarmed : t.detector = .disarmed) :
    ((detect h t).1.detector = .armed ↔ t.l ≤ -(h : Int)) ∧ (t.l ≤ -(h : Int) → (detect h t).1.zeroSinceArmed = false) := by
  rw [detect_disarmed disarmed]
  split
  · next low => exact ⟨⟨fun _ => low, fun _ => rfl⟩, fun _ => rfl⟩
  · next high => exact ⟨⟨fun armed => (by rw [disarmed] at armed; cases armed), fun low => absurd low high⟩, fun low => absurd low high⟩

end

/-! ### The low-pass filter, the zero points and the sample count (R37, R40, R41, R43) -/

/-- The zero point lies between the two samples, at the interpolated instant (R43). -/
theorem zeroPoint_between (taken : Nat) {prev l : Int} (below : prev ≤ 0) (above : 0 < l) :
    16 * taken ≤ zeroPoint (taken + 1) prev l ∧ zeroPoint (taken + 1) prev l ≤ 16 * taken + 16 ∧
      (zeroPoint (taken + 1) prev l : Int) = 16 * taken + ⌊((16 * -prev : ℚ) / (l - prev)) + 1 / 2⌋ := by
  have width : ((l - prev).toNat : Int) = l - prev := Int.toNat_of_nonneg (by omega)
  have width_rat : (((l - prev).toNat : Nat) : ℚ) = l - prev := by exact_mod_cast congrArg (Int.cast (R := ℚ)) width
  have between := roundAway_between (lo := 0) (hi := 16) (a := 16 * -prev) (b := (l - prev).toNat) (by omega) le_rfl (by omega) (by omega)
  have exact_value := roundAway_of_nonneg (a := 16 * -prev) (by omega) (b := (l - prev).toNat) (by omega)
  rw [width_rat] at exact_value
  push_cast at exact_value
  unfold zeroPoint
  rw [← exact_value]
  omega

/-- The filter's low-pass value, rounded exactly and saturated (R41). -/
theorem lowPass_eq (shift : Nat) (l y : Int) : lowPass shift l y =
    max (-8388608) (min 8388607 (l + (y - l).sign * ⌊((y - l).natAbs : ℚ) / 2 ^ shift + 1 / 2⌋)) := by
  have quotient := roundAway_eq_sign_mul_floor (y - l) (b := 2 ^ shift) (Nat.two_pow_pos shift)
  push_cast at quotient
  rw [lowPass, quotient]
  rfl

section
variable {r : StringRecord} {y : Int} {t : Tracker}

theorem Tracker.setTaken_zero (t : Tracker) (count : Nat) : (t.setTaken count).zero = t.zero := rfl
theorem Tracker.setTaken_zeroSinceArmed (t : Tracker) (count : Nat) : (t.setTaken count).zeroSinceArmed = t.zeroSinceArmed := rfl

theorem filterSample_of_no_rise (h : ¬ (t.l ≤ 0 ∧ 0 < (filterSample r y t).l)) :
    (filterSample r y t).zero = t.zero ∧ (filterSample r y t).zeroSinceArmed = t.zeroSinceArmed := by
  rw [filterSample_l] at h
  rcases filterSample_cases r y t with ⟨rise, -⟩ | ⟨-, e⟩
  · exact absurd rise h
  · exact ⟨(congrArg Tracker.zero e).trans (t.setTaken_zero (t.taken + 1)), (congrArg Tracker.zeroSinceArmed e).trans (t.setTaken_zeroSinceArmed (t.taken + 1))⟩

section
variable (below : t.l ≤ 0) (above : 0 < lowPass r.lowPassShift t.l y)
include below above

theorem filterSample_rise_armed : (filterSample r y t).zeroSinceArmed = true := by
  rcases filterSample_cases r y t with ⟨-, e⟩ | ⟨level, -⟩
  · exact congrArg Tracker.zeroSinceArmed e
  · exact absurd ⟨below, above⟩ level

theorem filterSample_rise_zero :
    (filterSample r y t).zero = some (.of (zeroPoint (t.taken + 1) t.l (lowPass r.lowPassShift t.l y))) := by
  rcases filterSample_cases r y t with ⟨-, e⟩ | ⟨level, -⟩
  · exact congrArg Tracker.zero e
  · exact absurd ⟨below, above⟩ level

end

end

/-! ### Counted crossings and the stale timer (R45 to R48) -/

section
variable {r : StringRecord} {point : Instant} {t : Tracker}

theorem trackSample_counted {level : Nat} {y : Int} {z : Instant}
    (counted : (detect (hysteresis r.hysteresisShift level) (filterSample r y t)).2 = true)
    (zero : (detect (hysteresis r.hysteresisShift level) (filterSample r y t)).1.zero = some z) :
    trackSample r level y t = countCrossing r z (detect (hysteresis r.hysteresisShift level) (filterSample r y t)).1 := by
  simp only [trackSample, counted, zero]

theorem trackSample_uncounted {level : Nat} {y : Int}
    (uncounted : (detect (hysteresis r.hysteresisShift level) (filterSample r y t)).2 = false) :
    trackSample r level y t = countStale (detect (hysteresis r.hysteresisShift level) (filterSample r y t)).1 := by
  simp only [trackSample, uncounted]

theorem countStale_of_none (ref : t.ref = none) : countStale t = (t, .quiet) := by simp only [countStale, ref]

theorem countStale_of_some (ref : t.ref.isSome = true) :
    countStale t = ({ t with stale := t.stale - 1 }, if t.stale ≤ 1 then .staleDue else .quiet) := by
  obtain ⟨ref, e⟩ := Option.isSome_iff_exists.mp ref
  simp only [countStale, e]

theorem countCrossing_first (ref : t.ref = none) : countCrossing r point t = ({ t with ref := some point, stale := 4096 }, .quiet) := by
  simp only [countCrossing, ref]

section
variable {ref : Instant} (some_ref : t.ref = some ref)
include some_ref

section
variable (valid : 256 ≤ point.exact - ref.exact ∧ point.exact - ref.exact ≤ 65535)
include valid

theorem countCrossing_search (search : t.lock = .search) : countCrossing r point t =
    searchCrossing r { t with ref := some point, stale := 4096, history := appendInterval (point.exact - ref.exact) t.history } := by
  unfold countCrossing
  rw [some_ref]
  dsimp only
  rw [if_pos valid]
  simp only [search]

theorem countCrossing_locked (locked : t.lock = .locked) : countCrossing r point t =
    lockedCrossing r { t with ref := some point, stale := 4096, history := appendInterval (point.exact - ref.exact) t.history } := by
  unfold countCrossing
  rw [some_ref]
  dsimp only
  rw [if_pos valid]
  simp only [locked]

end

theorem countCrossing_invalid (invalid : point.exact - ref.exact < 256 ∨ 65535 < point.exact - ref.exact) :
    countCrossing r point t = outOfRange { t with ref := some point, stale := 4096 } := by
  unfold countCrossing
  rw [some_ref]
  dsimp only
  rw [if_neg (by omega)]

end

theorem outOfRange_search (search : t.lock = .search) : outOfRange t = ({ t with history := [], candidates := .revived }, .quiet) := by
  simp only [outOfRange, search, restartSearch]

theorem missed_early {jump : Option Nat} (few : t.misses ≤ 1) : missed jump t = ({ t with jump := jump, misses := t.misses + 1 }, .quiet) := by
  unfold missed
  rw [show min 3 (t.misses + 1) = t.misses + 1 by omega]
  dsimp only
  rw [if_neg (by omega)]

theorem missed_third {jump : Option Nat} (many : 2 ≤ t.misses) : missed jump t = ({ t with jump := jump, misses := 3 }, .lossDue) := by
  unfold missed
  rw [show min 3 (t.misses + 1) = 3 by omega]
  rfl

theorem outOfRange_locked (locked : t.lock = .locked) : outOfRange t = missed none { t with history := [] } := by
  simp only [outOfRange, locked]

theorem lockedCrossing_quiet (h : t.k = none ∨ t.period = none ∨ ∃ k, t.k = some k ∧ t.history.length < k.num) :
    lockedCrossing r t = (t, .quiet) := by
  unfold lockedCrossing
  split
  · next k period some_k some_period =>
    rw [if_neg]
    rcases h with none_k | none_period | ⟨k', e, short⟩
    · rw [none_k] at some_k; cases some_k
    · rw [none_period] at some_period; cases some_period
    · cases some_k.symm.trans e
      omega
  · rfl

theorem lockedCrossing_measures {k : CandidateNo} {period : Nat} (some_k : t.k = some k) (some_period : t.period = some period)
    (enough : k.num ≤ t.history.length) : lockedCrossing r t = measure r period (256 * newestSum k.num t.history) t := by
  simp only [lockedCrossing, some_k, some_period]
  rw [if_pos enough, Nat.mul_comm]

end

theorem trackerSample_running {tb : Tables} {n : StringNo} {y : Int} {stamp : Index} {u : StringUnit} (running : u.tracker.run = .running) :
    trackerSample tb n y stamp u = takeOutcome stamp (trackSample (tb.strings.get n) u.env.level y u.tracker).2
      { u with tracker := (trackSample (tb.strings.get n) u.env.level y u.tracker).1 } := by
  simp only [trackerSample, running]

/-- Settles O30: the detector, the filter, the sample, what becomes due, and the counted crossing. -/
theorem crossingsCountedOnceArmed : Obligations.CrossingsCountedOnceArmed := by
  refine ⟨fun h t => detect_counts_iff, fun h t counted => (detect_counts counted).2.2, fun h t => detect_armed_quiet,
    fun h t => detect_arms, fun r y t => ?_, fun r level y t => ?_, fun tb n y stamp u => ?_, fun r point t => ?_⟩
  · refine ⟨(filterSample_l r y t).trans (lowPass_eq _ _ _), filterSample_prevL r y t, filterSample_samples_lt r y t, filterSample_taken r y t,
      filterSample_of_no_rise, fun below above => ?_⟩
    · rw [filterSample_l] at above ⊢
      obtain ⟨after, before, instant⟩ := zeroPoint_between t.taken below above
      have exact_time := Instant.exact_of (zeroPoint (t.taken + 1) t.l (lowPass r.lowPassShift t.l y))
      refine ⟨filterSample_rise_armed below above, _, filterSample_rise_zero below above, Nat.mod_lt _ (by decide), ?_⟩
      rw [← exact_time] at after before instant
      exact ⟨after, before, instant⟩
  · refine ⟨fun z counted zero => trackSample_counted counted zero, fun uncounted ref => ?_, fun uncounted ref => ?_⟩
    · exact (trackSample_uncounted uncounted).trans (countStale_of_none ref)
    · exact (trackSample_uncounted uncounted).trans (countStale_of_some ref)
  · refine ⟨fun stopped => by simp only [trackerSample, stopped], fun running => ?_⟩
    rw [trackerSample_running running]
    dsimp only
    refine ⟨fun e => ?_, fun report e => ?_, fun k period e => ?_, fun e => ?_, fun e => ?_⟩ <;> rw [e] <;> rfl
  · refine ⟨countCrossing_first, fun ref some_ref => ⟨fun above below => ⟨fun search => ?_, fun locked quiet => ?_,
      fun k period locked some_k some_period enough => ?_⟩, fun invalid => ⟨fun search => ?_, fun locked few => ?_, fun locked many => ?_⟩⟩⟩
    · exact countCrossing_search some_ref ⟨above, below⟩ search
    · exact (countCrossing_locked some_ref ⟨above, below⟩ locked).trans (lockedCrossing_quiet quiet)
    · exact (countCrossing_locked some_ref ⟨above, below⟩ locked).trans (lockedCrossing_measures some_k some_period enough)
    · rw [countCrossing_invalid some_ref invalid, outOfRange_search (by exact search)]
    · rw [countCrossing_invalid some_ref invalid, outOfRange_locked (by exact locked), missed_early (by exact few)]
    · rw [countCrossing_invalid some_ref invalid, outOfRange_locked (by exact locked), missed_third (by exact many)]

end Sys2Proof.Machine
end

section
/-! The search and the measurements of the period tracker, and the reports of a hit and a jump at the note engine. -/

namespace Sys2Proof.Machine

/-! ### The candidate tests and the lock decision (R49 to R53) -/

theorem testCandidates_get (tol : Nat) (history : List Nat) (c : Candidates) (k : CandidateNo) :
    (testCandidates tol history c).get k = testCandidate tol history k.num (c.get k) := by
  cases k <;> rfl

theorem agrees_iff (tol a b : Nat) : agrees tol a b = true ↔ ((a : Int) - b).natAbs * 256 ≤ b * tol := decide_eq_true_iff

section
variable {tol k : Nat} {history : List Nat} {c : Candidate}

theorem testCandidate_untested (h : c.alive = false ∨ history.length < 2 * k) : testCandidate tol history k c = c := by
  rw [testCandidate, if_neg]
  rintro ⟨alive, enough⟩
  rcases h with dead | short
  · rw [dead] at alive; cases alive
  · omega

theorem testCandidate_close (alive : c.alive = true) (enough : 2 * k ≤ history.length)
    (close : agrees tol (newestSum k history) (previousSum k history) = true) :
    testCandidate tol history k c = ⟨true, min 255 (c.passes + 1), some (newestSum k history)⟩ := by
  rw [testCandidate, if_pos ⟨alive, enough⟩, if_pos close]
  rfl

theorem testCandidate_apart (alive : c.alive = true) (enough : 2 * k ≤ history.length)
    (apart : ¬ agrees tol (newestSum k history) (previousSum k history) = true) : (testCandidate tol history k c).alive = false := by
  rw [testCandidate, if_pos ⟨alive, enough⟩, if_neg apart]

end

section
variable {r : StringRecord} {t : Tracker}

theorem searchCrossing_restarts (dead : ∀ k : CandidateNo, ((testCandidates r.tolerance t.history t.candidates).get k).alive = false) :
    searchCrossing r t = ({ t with history := t.history.getLast?.toList, candidates := .revived }, .quiet) := by
  simp only [searchCrossing, Candidates.smallestAlive, Candidates.smallest_eq_none dead, restartSearch, newestAlone_eq]

variable {k : CandidateNo} (alive : ((testCandidates r.tolerance t.history t.candidates).get k).alive = true)
  (smallest : ∀ j : CandidateNo, j.num < k.num → ((testCandidates r.tolerance t.history t.candidates).get j).alive = false)
include alive smallest

theorem searchCrossing_locks (confirmed : r.confirm ≤ ((testCandidates r.tolerance t.history t.candidates).get k).passes) :
    searchCrossing r t = ({ t with candidates := testCandidates r.tolerance t.history t.candidates, decided := true },
      .lockDue k (256 * newestSum k.num t.history)) := by
  simp only [searchCrossing, Candidates.smallestAlive, Candidates.smallest_eq_some alive smallest]
  rw [if_pos confirmed, Nat.mul_comm]

theorem searchCrossing_unconfirmed (unconfirmed : ((testCandidates r.tolerance t.history t.candidates).get k).passes < r.confirm) :
    searchCrossing r t = ({ t with candidates := testCandidates r.tolerance t.history t.candidates },
      match (testCandidates r.tolerance t.history t.candidates).passingSum with
      | some sum => .report (.searchPass sum)
      | none => .quiet) := by
  simp only [searchCrossing, Candidates.smallestAlive, Candidates.smallest_eq_some alive smallest]
  rw [if_neg (by omega)]
  cases (testCandidates r.tolerance t.history t.candidates).passingSum <;> rfl

end

/-- Settles O31: the tests one by one, then the decision by the smallest survivor. -/
theorem smallestSurvivorLocks : Obligations.SmallestSurvivorLocks := by
  intro r t
  refine ⟨fun k => ?_, searchCrossing_restarts, fun k alive smallest => ⟨searchCrossing_locks alive smallest, fun unconfirmed => ?_⟩⟩
  · dsimp only
    rw [testCandidates_get]
    refine ⟨testCandidate_untested, fun alive enough close => ?_, fun alive enough apart => ?_⟩
    · exact testCandidate_close alive enough ((agrees_iff _ _ _).mpr close)
    · exact testCandidate_apart alive enough fun close => apart ((agrees_iff _ _ _).mp close)
  · rw [searchCrossing_unconfirmed alive smallest unconfirmed]
    refine ⟨fun unpassed => ?_, fun j sum passing passes last below => ?_⟩
    · rw [Candidates.passingSum_eq_none unpassed]
    · rw [Candidates.passingSum_eq_some passing passes last below]

/-! ### Measurements in LOCKED (R60 to R64) -/

section
variable {r : StringRecord} {period measured : Nat} {t : Tracker}

theorem measure_hit (near : agrees r.tolerance measured period = true) : measure r period measured t =
    ({ t with period := some (loopStep r.loopShift period measured), misses := 0, jump := none },
      .report (.hit (loopStep r.loopShift period measured))) := by
  rw [measure, if_pos near]

theorem measure_jump {j : Nat} (off : ¬ agrees r.tolerance measured period = true) (jump : t.jump = some j)
    (near : agrees r.tolerance measured j = true) :
    measure r period measured t = ({ t with period := some measured, misses := 0, jump := none }, .report (.jump measured)) := by
  rw [measure, if_neg off]
  simp only [jump]
  rw [if_pos near]

theorem measure_miss (off : ¬ agrees r.tolerance measured period = true)
    (away : ∀ j, t.jump = some j → ¬ agrees r.tolerance measured j = true) : measure r period measured t = missed (some measured) t := by
  rw [measure, if_neg off]
  cases jump : t.jump with
  | none => rfl
  | some j => exact if_neg (away j jump)

end

/-- The loop filter moves T by the rounded quotient (R61). -/
theorem loopStep_eq (shift period measured : Nat) : (loopStep shift period measured : Int) =
    period + ((measured : Int) - period).sign * ⌊(((measured : Int) - period).natAbs : ℚ) / 2 ^ shift + 1 / 2⌋ := by
  have step := roundAway_toward ((measured : Int) - period) (b := 2 ^ shift) Nat.one_le_two_pow
  have quotient := roundAway_eq_sign_mul_floor ((measured : Int) - period) (b := 2 ^ shift) (Nat.two_pow_pos shift)
  push_cast at quotient
  rw [← quotient]
  unfold loopStep
  omega

/-! ### The reports of a hit and a jump (R76, R96, R97) -/

section
variable {tb : Tables} {n : StringNo} {period : Nat} {stamp : Index} {u : StringUnit}

theorem reports_discarded (left : u.pitch = .none ∨ u.context = .empty ∨ ∃ deadline, u.context = .pending deadline) :
    hitReport tb n period stamp u = u ∧ jumpReport tb n period stamp u = u := by
  unfold hitReport jumpReport
  rcases left with none | empty | ⟨deadline, pending⟩
  · rw [none]; exact ⟨rfl, rfl⟩
  · rw [empty]; cases u.pitch <;> exact ⟨rfl, rfl⟩
  · rw [pending]; cases u.pitch <;> exact ⟨rfl, rfl⟩

variable {note : Struck} (pitched : u.pitch ≠ .none) (context : u.context = .struck note)
include pitched context

theorem jumpReport_struck : jumpReport tb n period stamp u =
    followRaw (tb.strings.get n) (rawNote (pitchOf tb.device period)) stamp false note
      { u with pitch := .tracking (pitchOf tb.device period) (rawNote (pitchOf tb.device period)) } := by
  unfold jumpReport
  rw [context]
  cases pitch : u.pitch with
  | none => exact absurd pitch pitched
  | held => rfl
  | tracking => rfl

theorem hitReport_struck : hitReport tb n period stamp u =
    (let v := { u with pitch := .tracking (pitchOf tb.device period) (rawNote (pitchOf tb.device period)) }
     if note.steps && outsideBand (tb.strings.get n).noteHysteresis (pitchOf tb.device period) note.held then
       followRaw (tb.strings.get n) (rawNote (pitchOf tb.device period)) stamp false note v
     else glideDecision (tb.strings.get n) stamp v) := by
  unfold hitReport
  rw [context]
  cases pitch : u.pitch with
  | none => exact absurd pitch pitched
  | held => rfl
  | tracking => rfl

end

theorem Struck.steps_eq (note : Struck) : note.steps = note.zone.any fun z => z.mode == .step := by
  unfold Struck.steps
  cases note.zone <;> rfl

/-- A unit whose context is already that of the note. -/
theorem withContext_self {u : StringUnit} {note : Struck} (context : u.context = .struck note) :
    { u with context := .struck note } = u := by
  rw [← context]

/-- A hit or a jump at a struck note: the held note moves to N_raw where it is a jump, or a hit outside the band of a STEP zone, and
the two differ; else the GLIDE decision follows at once (R96, R97). -/
theorem takeReport_struck {tb : Tables} {n : StringNo} {period : Nat} {stamp : Index} {report : Report} {u : StringUnit} {note : Struck}
    (due : u.due.report = some (report, stamp)) (kind : report = .hit period ∨ report = .jump period)
    (pitched : u.pitch ≠ .none) (context : u.context = .struck note) :
    takeReport tb n u =
      (let q := pitchOf tb.device period
       let w := { u with due := { u.due with report := none }, pitch := .tracking q (rawNote q) }
       if rawNote q ≠ note.held ∧ (report = .jump period ∨
          (note.steps = true ∧ outsideBand (tb.strings.get n).noteHysteresis q note.held = true)) then
         followRaw (tb.strings.get n) (rawNote q) stamp false note w
       else glideDecision (tb.strings.get n) stamp w) := by
  unfold takeReport
  rw [due]
  dsimp only
  by_cases kept : rawNote (pitchOf tb.device period) = note.held
  · rw [if_neg (fun moves => moves.1 kept)]
    rcases kind with rfl | rfl
    · simp only
      rw [hitReport_struck (by exact pitched) (by exact context)]
      dsimp only
      rw [followRaw_kept kept, withContext_self (by exact context), ite_self]
    · simp only
      rw [jumpReport_struck (by exact pitched) (by exact context), followRaw_kept kept, withContext_self (by exact context)]
  · rcases kind with rfl | rfl
    · simp only
      rw [hitReport_struck (by exact pitched) (by exact context)]
      simp [kept]
    · simp only
      rw [jumpReport_struck (by exact pitched) (by exact context), if_pos ⟨kept, .inl trivial⟩]

/-- Settles O32: the three outcomes of a measurement, then the report by whether the held note moves. -/
theorem hitsJumpsAndMisses : Obligations.HitsJumpsAndMisses := by
  refine ⟨fun r period measured t => ?_, fun tb n period stamp report u due kind => ?_⟩
  · simp only [← agrees_iff]
    refine ⟨fun near => ⟨_, measure_hit near, loopStep_eq _ _ _, loopStep_between _ _ _⟩, fun j off jump near => measure_jump off jump near,
      fun off away few => ?_, fun off away many => ?_⟩
    · rw [measure_miss off away, missed_early few]
    · rw [measure_miss off away, missed_third many]
  · dsimp only
    refine ⟨fun left => ?_, fun note pitched context => ?_⟩
    · obtain ⟨hit, jump⟩ := reports_discarded (tb := tb) (n := n) (period := period) (stamp := stamp)
        (u := { u with due := { u.due with report := none } }) left
      unfold takeReport
      rw [due]
      rcases kind with rfl | rfl
      · exact hit
      · exact jump
    · rw [takeReport_struck due kind pitched context, Struck.steps_eq]
      simp only [outsideBand, decide_eq_true_eq]
      refine ⟨fun kept => if_neg kept, fun moves unzoned => ?_, fun z moves zone => ⟨fun unannounced => ?_, fun announced => ?_⟩⟩
      · rw [if_pos moves, followRaw_unzoned moves.1 unzoned]
      · rw [if_pos moves, followRaw_unannounced moves.1 zone unannounced]
      · rw [if_pos moves, followRaw_announced moves.1 zone announced]

end Sys2Proof.Machine
end

section
/-! Requests: what each is answered with, and what its body's length and numbers decide. -/

namespace Sys2Proof.Machine

/-! ### Requests served -/

section
variable {s t : State} {reply : Reply} {body : List Byte} (h : s.Serves)
include h

theorem State.serve_next {kind : Byte} {effect : List Byte → State → State × Reply} (e : effect body s = (t, reply)) :
    s.serve kind body effect = t.answered kind (tagOf body) reply.result.code reply.data := by
  rw [s.serve_of_serves h, e, State.answer_eq_answered]

theorem exec_requestBadKind_served (kind : Byte) : exec (.requestBadKind kind body) s = .next (s.answered kind (tagOf body) 2 []) :=
  congrArg _ (State.serve_next h (effect := badKindRequest) rfl)

theorem exec_put_served (e : putRequest body s = (t, reply)) :
    exec (.put body) s = .next (t.answered 0x20 (tagOf body) reply.result.code reply.data) := congrArg _ (State.serve_next h e)

theorem exec_get_served (e : getRequest body s = (t, reply)) :
    exec (.get body) s = .next (t.answered 0x21 (tagOf body) reply.result.code reply.data) := congrArg _ (State.serve_next h e)

theorem exec_mode_served (e : modeRequest body s = (t, reply)) :
    exec (.mode body) s = .next (t.answered 0x22 (tagOf body) reply.result.code reply.data) := congrArg _ (State.serve_next h e)

theorem exec_clear_served (e : clearRequest body s = (t, reply)) :
    exec (.clear body) s = .next (t.answered 0x23 (tagOf body) reply.result.code reply.data) := congrArg _ (State.serve_next h e)

theorem exec_damp_served (e : dampRequest body s = (t, reply)) :
    exec (.damp body) s = .next (t.answered 0x24 (tagOf body) reply.result.code reply.data) := congrArg _ (State.serve_next h e)

theorem exec_status_served (e : statusRequest body s = (t, reply)) :
    exec (.status body) s = .next (t.answered 0x25 (tagOf body) reply.result.code reply.data) := congrArg _ (State.serve_next h e)

theorem exec_counters_served (e : countersRequest body s = (t, reply)) :
    exec (.counters body) s = .next (t.answered 0x26 (tagOf body) reply.result.code reply.data) := congrArg _ (State.serve_next h e)

end

/-! ### Strings and records by their numbers -/

theorem stringOf_eq_none {index : Nat} (h : index = 0 ∨ 7 ≤ index) : stringOf index = none := by
  unfold stringOf
  split <;> first | rfl | omega

theorem Byte.toNat_outside {index : Byte} (h : index = 0 ∨ 7 ≤ index.toNat) : index.toNat = 0 ∨ 7 ≤ index.toNat := by
  rcases h with rfl | high
  · exact .inl rfl
  · exact .inr high

theorem recordName_badTable {table : Nat} (h : table = 0 ∨ 6 ≤ table) (index : Nat) : recordName table index = .error .badTable := by
  unfold recordName
  rw [if_neg (by omega), if_neg (by omega), if_neg (by omega), if_neg (by omega), if_neg (by omega)]

theorem recordName_badIndex {table index : Byte}
    (h : (table = 1 ∧ index ≠ 0) ∨ (table = 2 ∨ table = 3) ∧ (index = 0 ∨ 7 ≤ index.toNat) ∨ (table = 4 ∧ 32 ≤ index.toNat) ∨
      (table = 5 ∧ 4 ≤ index.toNat)) : recordName table.toNat index.toNat = .error .badIndex := by
  rcases h with ⟨rfl, h⟩ | ⟨rfl | rfl, h⟩ | ⟨rfl, h⟩ | ⟨rfl, h⟩
  · have nonzero : index.toNat ≠ 0 := fun e => h (BitVec.eq_of_toNat_eq e)
    simp [recordName, nonzero]
  · simp [recordName, stringOf_eq_none (Byte.toNat_outside h)]
  · simp [recordName, stringOf_eq_none (Byte.toNat_outside h)]
  · simp [recordName, Nat.not_lt.mpr h]
  · simp [recordName, Nat.not_lt.mpr h]

/-! ### GET and STATUS -/

section
variable {tag table index : Byte} {s : State}

theorem getRequest_record {name : RecordName} (named : recordName table.toNat index.toNat = .ok name) :
    getRequest [tag, table, index] s = (s, ⟨.ok, s.recordBytes name⟩) := by
  simp only [getRequest, named]

theorem getRequest_error {e : Result} (unnamed : recordName table.toNat index.toNat = .error e) :
    getRequest [tag, table, index] s = (s, .code e) := by
  simp only [getRequest, unnamed]

theorem getRequest_badLength {body : List Byte} (h : body.length ≠ 2) : getRequest (tag :: body) s = (s, .code .badLength) := by
  unfold getRequest
  split
  · next e => cases e; exact absurd rfl h
  · rfl

theorem statusRequest_badIndex (h : 7 ≤ index.toNat) : statusRequest [tag, index] s = (s, .code .badIndex) := by
  have nonzero : index ≠ 0#8 := by rintro rfl; exact absurd h (by decide)
  simp only [statusRequest, if_neg nonzero, stringOf_eq_none (.inr h)]

theorem statusRequest_badLength {body : List Byte} (h : body.length ≠ 1) : statusRequest (tag :: body) s = (s, .code .badLength) := by
  unfold statusRequest
  split
  · next e => cases e; exact absurd rfl h
  · rfl

theorem byte_num_ne_zero (n : StringNo) : byte n.num ≠ 0#8 := by cases n <;> decide

theorem statusRequest_string (n : StringNo) : statusRequest [tag, byte n.num] s = (s, ⟨.ok, (s.unit n).statusBytes⟩) := by
  simp only [statusRequest, if_neg (byte_num_ne_zero n), stringOf_num]

end

/-! ### The quick status -/

theorem getLsbD_byte (v i : Nat) : (byte v).getLsbD i = (decide (i < 8) && v.testBit i) := BitVec.getLsbD_ofNat 8 v i

/-- The sum of eight weighted flags has the flags as its bits. -/
theorem testBit_flags (b0 b1 b2 b3 b4 b5 b6 b7 : Bool) :
    let v := flag b0 + 2 * flag b1 + 4 * flag b2 + 8 * flag b3 + 16 * flag b4 + 32 * flag b5 + 64 * flag b6 + 128 * flag b7
    v.testBit 0 = b0 ∧ v.testBit 1 = b1 ∧ v.testBit 2 = b2 ∧ v.testBit 3 = b3 ∧ v.testBit 4 = b4 ∧ v.testBit 5 = b5 ∧
      v.testBit 6 = b6 ∧ v.testBit 7 = b7 := by
  revert b0 b1 b2 b3 b4 b5 b6 b7
  decide

theorem StringState.sounds_iff (state : StringState) : state.sounds = true ↔ state = .attack ∨ state = .sounding ∨ state = .damped := by
  cases state <;> simp [StringState.sounds]

theorem StringState.faulted_iff (state : StringState) :
    state.faulted = true ↔ state = .faultWait ∨ state = .faultTest ∨ state = .faultLatched := by
  cases state <;> simp [StringState.faulted]

theorem StoreState.prefilling_iff (state : StoreState) : state.prefilling = true ↔ state = .prefill ∨ state = .halted := by
  cases state <;> simp [StoreState.prefilling]

/-- The bits of the quick status stand where R192 puts them. -/
theorem quickStatus_bits (states : Six StringState) (pickup : SyncState) (store : StoreState) :
    ∃ first second : Byte, quickStatus states pickup store = [first, second] ∧
      (∀ n : StringNo,
        (first.getLsbD (n.num - 1) = true ↔ states.get n = .attack ∨ states.get n = .sounding ∨ states.get n = .damped) ∧
        (second.getLsbD (n.num - 1) = true ↔
          states.get n = .faultWait ∨ states.get n = .faultTest ∨ states.get n = .faultLatched)) ∧
      (first.getLsbD 6 = true ↔ pickup = .sync) ∧ (first.getLsbD 7 = true ↔ store = .prefill ∨ store = .halted) ∧
      second.getLsbD 6 = false ∧ second.getLsbD 7 = false := by
  obtain ⟨s0, s1, s2, s3, s4, s5, s6, s7⟩ := testBit_flags states.x1.sounds states.x2.sounds states.x3.sounds states.x4.sounds
    states.x5.sounds states.x6.sounds (pickup == .sync) store.prefilling
  obtain ⟨f0, f1, f2, f3, f4, f5, f6, f7⟩ := testBit_flags states.x1.faulted states.x2.faulted states.x3.faulted states.x4.faulted
    states.x5.faulted states.x6.faulted false false
  simp only [show flag false = 0 from rfl, mul_zero, add_zero] at f0 f1 f2 f3 f4 f5 f6 f7
  refine ⟨_, _, rfl, fun n => ⟨?_, ?_⟩, ?_, ?_, ?_, ?_⟩
  · rw [← StringState.sounds_iff]
    cases n <;> simp only [StringNo.num, getLsbD_byte, sixBits, Six.get, Nat.reduceSub, Nat.reduceLT, decide_true, Bool.true_and, *]
  · rw [← StringState.faulted_iff]
    cases n <;> simp only [StringNo.num, getLsbD_byte, sixBits, Six.get, Nat.reduceSub, Nat.reduceLT, decide_true, Bool.true_and, *]
  · simp only [getLsbD_byte, sixBits, Nat.reduceLT, decide_true, Bool.true_and, s6, beq_iff_eq]
  · simp only [getLsbD_byte, sixBits, Nat.reduceLT, decide_true, Bool.true_and, s7, StoreState.prefilling_iff]
  · simp only [getLsbD_byte, sixBits, Nat.reduceLT, decide_true, Bool.true_and, f6]
  · simp only [getLsbD_byte, sixBits, Nat.reduceLT, decide_true, Bool.true_and, f7]

/-- Settles O52: the requests one by one, then the bits of the quick status. -/
theorem readingRequestsAnswered : Obligations.ReadingRequestsAnswered := by
  refine ⟨fun tag s serves => ⟨fun kind body _ => ?_, ?_, fun n => ⟨?_, ?_⟩, fun n => ?_, fun i => ?_, fun i => ?_, fun table index h => ?_,
    fun table index h => ?_, fun index h => ?_, fun body h => ?_, fun body h => ?_, ?_, ?_, ?_⟩, fun states pickup store => ?_⟩
  · exact ⟨exec_requestBadKind_served serves kind, exec_requestBadKind_served serves kind⟩
  · exact (exec_get_served serves (getRequest_record (tag := tag) (table := 1) (index := 0) (name := .device) rfl)).trans rfl
  · exact (exec_get_served serves (getRequest_record (tag := tag) (table := 2) (recordName_string n))).trans rfl
  · exact (exec_get_served serves (getRequest_record (tag := tag) (table := 3) (recordName_row n))).trans rfl
  · refine (exec_status_served serves (statusRequest_string (tag := tag) n)).trans
      (congrArg (fun data => Host.Outcome.next (s.answered 0x25 tag 0 data)) ?_)
    generalize s.unit n = u
    simp only [StringUnit.statusBytes, bytes2, bytes3, List.cons_append, List.nil_append, List.cons.injEq, and_true]
    refine ⟨?_, ?_, ?_, ?_, ?_, ?_, rfl, rfl, rfl, ?_, rfl, rfl, ?_⟩
    · cases u.state <;> rfl
    · cases u.tracker.lock <;> rfl
    · unfold Tracker.reportedK
      cases u.tracker.lock <;> cases u.tracker.k <;> rfl
    · cases u.context <;> rfl
    · cases u.pitch <;> rfl
    · cases u.pitch <;> rfl
    · rcases u.monitor.cause with _ | cause
      · rfl
      · cases cause <;> rfl
    · cases u.glide <;> cases u.press <;> rfl
  · exact (exec_get_served serves (getRequest_record (tag := tag) (table := 4) (recordName_zone i))).trans rfl
  · exact (exec_get_served serves (getRequest_record (tag := tag) (table := 5) (recordName_curve i))).trans rfl
  · exact (exec_get_served serves (getRequest_error (tag := tag) (recordName_badTable h index.toNat))).trans rfl
  · exact (exec_get_served serves (getRequest_error (tag := tag) (recordName_badIndex h))).trans rfl
  · exact (exec_status_served serves (statusRequest_badIndex (tag := tag) h)).trans rfl
  · exact (exec_get_served serves (getRequest_badLength (tag := tag) h)).trans rfl
  · exact (exec_status_served serves (statusRequest_badLength (tag := tag) h)).trans rfl
  · exact (exec_get_served serves (reply := .code .badLength) rfl).trans rfl
  · exact (exec_status_served serves (reply := .code .badLength) rfl).trans rfl
  · refine (exec_status_served serves (body := [tag, 0]) (reply := ⟨.ok, s.deviceStatus⟩) rfl).trans
      (congrArg (fun data => Host.Outcome.next (s.answered 0x25 tag 0 data)) ?_)
    simp only [State.deviceStatus]
    cases s.pickup.receiver.state <;> cases s.synth.clock <;> cases s.store.state <;> rfl
  · exact quickStatus_bits states pickup store

section
variable {tag index : Byte} {s : State}

/-! ### CLEAR and DAMP -/

theorem clearRequest_string (n : StringNo) : clearRequest [tag, byte n.num] s = clearString n s := by
  simp only [clearRequest, stringOf_num]

theorem clearRequest_badIndex (h : index = 0 ∨ 7 ≤ index.toNat) : clearRequest [tag, index] s = (s, .code .badIndex) := by
  simp only [clearRequest, stringOf_eq_none (Byte.toNat_outside h)]

theorem clearRequest_badLength {body : List Byte} (h : body.length ≠ 1) : clearRequest (tag :: body) s = (s, .code .badLength) := by
  unfold clearRequest
  split
  · next e => cases e; exact absurd rfl h
  · rfl

theorem dampRequest_string (n : StringNo) : dampRequest [tag, byte n.num] s =
    (s.setUnit n (dampString (s.record n) s.index (s.unit n)).1,
      .code (if (dampString (s.record n) s.index (s.unit n)).2 then .ok else .noEffect)) := by
  simp only [dampRequest, stringOf_num]

theorem dampRequest_badIndex (h : index = 0 ∨ 7 ≤ index.toNat) : dampRequest [tag, index] s = (s, .code .badIndex) := by
  simp only [dampRequest, stringOf_eq_none (Byte.toNat_outside h)]

theorem dampRequest_badLength {body : List Byte} (h : body.length ≠ 1) : dampRequest (tag :: body) s = (s, .code .badLength) := by
  unfold dampRequest
  split
  · next e => cases e; exact absurd rfl h
  · rfl

end

section
variable {n : StringNo} {s : State}

theorem clearString_recovers (faulted : (s.unit n).state.faulted = true) (absent : conditionPresent (s.record n) (s.unit n).monitor = none) :
    clearString n s = ((s.setUnit n (recoverString (s.unit n))).offerNotice (.recover n), .code .ok) := by
  rw [clearString, if_pos faulted, absent]
  rfl

theorem clearString_stillFaulted {cause : Cause} (faulted : (s.unit n).state.faulted = true)
    (present : conditionPresent (s.record n) (s.unit n).monitor = some cause) : clearString n s = (s, .code .stillFaulted) := by
  rw [clearString, if_pos faulted, present]

theorem clearString_noEffect (sound : (s.unit n).state.faulted = false) : clearString n s = (s, .code .noEffect) :=
  if_neg (by simp [sound])

end

/-- Settles O57: a fault state without a condition, with one, and no fault state. -/
theorem clearRecoversFaultedString : Obligations.ClearRecoversFaultedString := by
  intro tag n s serves
  dsimp only
  refine ⟨fun faulted absent => ?_, fun cause faulted present => ?_, fun sound => ?_, fun index h => ?_, fun body h => ?_, ?_⟩
  · rw [exec_clear_served serves ((clearRequest_string n).trans (clearString_recovers faulted absent))]
    rfl
  · rw [exec_clear_served serves ((clearRequest_string n).trans (clearString_stillFaulted faulted present))]
    rfl
  · rw [exec_clear_served serves ((clearRequest_string n).trans (clearString_noEffect sound))]
    rfl
  · exact (exec_clear_served serves (clearRequest_badIndex (tag := tag) h)).trans rfl
  · exact (exec_clear_served serves (clearRequest_badLength (tag := tag) h)).trans rfl
  · exact (exec_clear_served serves (reply := .code .badLength) rfl).trans rfl

/-- A DAMP that is taken replaces its string's unit and is answered OK. -/
theorem exec_damp_taken {tag : Byte} {n : StringNo} {s : State} {u : StringUnit} (serves : s.Serves)
    (taken : dampString (s.record n) s.index (s.unit n) = (u, true)) :
    exec (.damp [tag, byte n.num]) s = .next ((s.setUnit n u).answered 0x24 tag 0 []) := by
  refine (exec_damp_served serves (dampRequest_string n)).trans ?_
  rw [taken]
  rfl

/-- Settles O58: by the state of the string, and by what its note hands over. -/
theorem dampForcesNoteToEnd : Obligations.DampForcesNoteToEnd := by
  intro tag n s serves
  dsimp only
  refine ⟨fun attack => ?_, fun note sounding context => ⟨fun silent => ?_, fun announced accepts room => ?_⟩, fun damped => ?_,
    fun quiet => ?_, fun index h => ?_, fun body h => ?_, ?_⟩
  · refine exec_damp_taken serves ?_
    simp only [dampString, attack]
    rfl
  · refine exec_damp_taken serves ?_
    simp only [dampString, sounding, endNote_silent _ _ context silent]
    rfl
  · refine exec_damp_taken serves ?_
    simp only [dampString, sounding, endNote_lifted _ _ context announced accepts room]
    rfl
  · refine exec_damp_taken serves ?_
    simp only [dampString, damped]
  · have left : dampString (s.record n) s.index (s.unit n) = (s.unit n, false) := by
      cases state : (s.unit n).state <;> simp_all [dampString, StringState.faulted]
    refine (exec_damp_served serves (dampRequest_string n)).trans ?_
    rw [left, State.setUnit_unit]
    rfl
  · exact (exec_damp_served serves (dampRequest_badIndex (tag := tag) h)).trans rfl
  · exact (exec_damp_served serves (dampRequest_badLength (tag := tag) h)).trans rfl
  · exact (exec_damp_served serves (reply := .code .badLength) rfl).trans rfl

/-! ### COUNTERS -/

section
variable {tag clear : Byte} {s : State}

theorem countersRequest_link (h : clear.toNat ≤ 1) : countersRequest [tag, 0#8, clear] s =
    (if clear = 1#8 then { s with link := .zero } else s, ⟨.ok, s.link.bytes⟩) := by
  simp only [countersRequest, if_true, h]

theorem countersRequest_string (n : StringNo) (h : clear.toNat ≤ 1) : countersRequest [tag, byte n.num, clear] s =
    (if clear = 1#8 then s.setUnit n { s.unit n with counters := .zero } else s, ⟨.ok, (s.unit n).counters.bytes⟩) := by
  simp only [countersRequest]
  rw [if_neg (byte_num_ne_zero n)]
  simp only [stringOf_num]
  rw [if_pos h]
  rfl

theorem countersRequest_badValue (n : StringNo) (h : 2 ≤ clear.toNat) :
    countersRequest [tag, byte n.num, clear] s = (s, .code .badValue) ∧ countersRequest [tag, 0#8, clear] s = (s, .code .badValue) := by
  constructor
  · simp only [countersRequest]
    rw [if_neg (byte_num_ne_zero n)]
    simp only [stringOf_num]
    rw [if_neg (by omega)]
  · simp only [countersRequest, if_true]
    rw [if_neg (by omega)]

theorem countersRequest_badIndex {group : Byte} (h : 7 ≤ group.toNat) : countersRequest [tag, group, clear] s = (s, .code .badIndex) := by
  have nonzero : group ≠ 0#8 := by rintro rfl; exact absurd h (by decide)
  simp only [countersRequest]
  rw [if_neg nonzero]
  simp only [stringOf_eq_none (.inr h)]

theorem countersRequest_badLength {body : List Byte} (h : body.length ≠ 2) : countersRequest (tag :: body) s = (s, .code .badLength) := by
  unfold countersRequest
  split
  · next e => cases e; exact absurd rfl h
  · rfl

end

/-- Settles O59: the two kinds of group, read and cleared, and the refusals. -/
theorem countersReadAndCleared : Obligations.CountersReadAndCleared := by
  intro tag n s serves
  dsimp only
  refine ⟨?_, ?_, ?_, ?_, fun clear h => ⟨?_, ?_⟩, fun group clear h => ?_, fun body h => ?_, ?_⟩
  · exact (exec_counters_served serves (countersRequest_string (tag := tag) (clear := 0) n (by decide))).trans rfl
  · exact (exec_counters_served serves (countersRequest_string (tag := tag) (clear := 1) n (by decide))).trans rfl
  · exact (exec_counters_served serves (countersRequest_link (tag := tag) (clear := 0) (by decide))).trans rfl
  · exact (exec_counters_served serves (countersRequest_link (tag := tag) (clear := 1) (by decide))).trans rfl
  · exact (exec_counters_served serves (countersRequest_badValue (tag := tag) n h).1).trans rfl
  · exact (exec_counters_served serves (countersRequest_badValue (tag := tag) n h).2).trans rfl
  · exact (exec_counters_served serves (countersRequest_badIndex (tag := tag) h)).trans rfl
  · exact (exec_counters_served serves (countersRequest_badLength (tag := tag) h)).trans rfl
  · exact (exec_counters_served serves (reply := .code .badLength) rfl).trans rfl

/-! ### Requests dropped (R176) -/

theorem State.serve_full {kind : Byte} {body : List Byte} {effect : List Byte → State → State × Reply} {s : State}
    (present : s.synth.clock = .present) (full : 4 ≤ s.answers.length) : s.serve kind body effect = s.dropRequest := by
  rcases s.admitRequest_cases (fun s => (effect body s).1.answer kind (tagOf body) (effect body s).2) with
    ⟨absent, -⟩ | ⟨-, room, -⟩ | ⟨-, -, e⟩
  · rw [present] at absent; cases absent
  · omega
  · exact e

theorem State.serve_absent {kind : Byte} {body : List Byte} {effect : List Byte → State → State × Reply} {s : State}
    (absent : s.synth.clock = .absent) : s.serve kind body effect = s := by
  simp only [State.serve, State.admitRequest, absent]

theorem State.takeRequest_full {execute : State → State} {s : State} (full : 4 ≤ s.answers.length) : s.takeRequest execute = s.dropRequest :=
  if_neg (by omega)

/-- Settles O53: every request but a RESET is served alike; a RESET is taken whatever the clock. -/
theorem fullAnswerQueueDropsRequests : Obligations.FullAnswerQueueDropsRequests := by
  intro kind tag body order s
  dsimp only
  refine ⟨fun present full c mem => ?_, fun full c mem => ?_, fun absent c mem => ?_⟩
  · simp only [List.mem_cons, List.not_mem_nil, or_false] at mem
    rcases mem with rfl | rfl | rfl | rfl | rfl | rfl | rfl | rfl <;> exact congrArg _ (State.serve_full present full)
  · simp only [List.mem_cons, List.not_mem_nil, or_false] at mem
    rcases mem with rfl | rfl <;> exact congrArg _ (State.takeRequest_full full)
  · simp only [List.mem_cons, List.not_mem_nil, or_false] at mem
    rcases mem with rfl | rfl | rfl | rfl | rfl | rfl | rfl | rfl <;> exact congrArg _ (State.serve_absent absent)

end Sys2Proof.Machine
end

section
/-! The receivers' entries, the line clock, the completion of a message, and the messages the relay takes. -/

namespace Sys2Proof.Machine

/-! ### The receivers' entries (R163, R165) -/

section
variable {s : State}

theorem exec_pickupHuntEntry (s : State) : exec .pickupHuntEntry s = .next s.takePickupHunt := rfl
theorem exec_pickupSyncEntry (s : State) : exec .pickupSyncEntry s = .next s.takePickupSync := rfl
theorem exec_synthReceiverHuntEntry (s : State) : exec .synthReceiverHuntEntry s = .next s.takeSynthHunt := rfl
theorem exec_synthReceiverSyncEntry (s : State) : exec .synthReceiverSyncEntry s = .next s.takeSynthSync := rfl

theorem State.takePickupHunt_due (sync : s.pickup.receiver.state = .sync) (bad : 3 ≤ s.pickup.receiver.bad) :
    s.takePickupHunt = s.pickupHuntEntry := if_pos ((Receiver.huntDue_iff _).mpr ⟨sync, bad⟩)

theorem State.takePickupHunt_idle (h : s.pickup.receiver.state = .hunt ∨ s.pickup.receiver.bad ≤ 2) : s.takePickupHunt = s := by
  refine if_neg fun due => ?_
  obtain ⟨sync, bad⟩ := (Receiver.huntDue_iff _).mp due
  rcases h with hunt | few
  · rw [hunt] at sync; cases sync
  · omega

theorem State.takePickupSync_due (hunt : s.pickup.receiver.state = .hunt) (good : 2 ≤ s.pickup.receiver.good) :
    s.takePickupSync = s.pickupSyncEntry := if_pos ((Receiver.syncDue_iff _).mpr ⟨hunt, good⟩)

theorem State.takePickupSync_idle (h : s.pickup.receiver.state = .sync ∨ s.pickup.receiver.good ≤ 1) : s.takePickupSync = s := by
  refine if_neg fun due => ?_
  obtain ⟨hunt, good⟩ := (Receiver.syncDue_iff _).mp due
  rcases h with sync | few
  · rw [sync] at hunt; cases hunt
  · omega

theorem State.takeSynthHunt_due (sync : s.synth.receiver.state = .sync) (bad : 3 ≤ s.synth.receiver.bad) :
    s.takeSynthHunt = s.synthHuntEntry := if_pos ((Receiver.huntDue_iff _).mpr ⟨sync, bad⟩)

theorem State.takeSynthHunt_idle (h : s.synth.receiver.state = .hunt ∨ s.synth.receiver.bad ≤ 2) : s.takeSynthHunt = s := by
  refine if_neg fun due => ?_
  obtain ⟨sync, bad⟩ := (Receiver.huntDue_iff _).mp due
  rcases h with hunt | few
  · rw [hunt] at sync; cases sync
  · omega

theorem State.takeSynthSync_due (hunt : s.synth.receiver.state = .hunt) (good : 2 ≤ s.synth.receiver.good) :
    s.takeSynthSync = s.synthSyncEntry := if_pos ((Receiver.syncDue_iff _).mpr ⟨hunt, good⟩)

theorem State.takeSynthSync_idle (h : s.synth.receiver.state = .sync ∨ s.synth.receiver.good ≤ 1) : s.takeSynthSync = s := by
  refine if_neg fun due => ?_
  obtain ⟨hunt, good⟩ := (Receiver.syncDue_iff _).mp due
  rcases h with sync | few
  · rw [sync] at hunt; cases hunt
  · omega

end

/-- Settles O44: each entry where its run is at the limit, and where it is not. -/
theorem receiverEntries : Obligations.ReceiverEntries := by
  intro s
  refine ⟨fun hunt good => ?_, fun sync bad => ?_, fun hunt good => ?_, fun h => ?_, fun h => ?_, fun h => ?_, fun h => ?_⟩
  · rw [exec_pickupSyncEntry, State.takePickupSync_due hunt good]; rfl
  · rw [exec_synthReceiverHuntEntry, State.takeSynthHunt_due sync bad]; rfl
  · rw [exec_synthReceiverSyncEntry, State.takeSynthSync_due hunt good]; rfl
  · rw [exec_pickupSyncEntry, State.takePickupSync_idle h]
  · rw [exec_pickupHuntEntry, State.takePickupHunt_idle h]
  · rw [exec_synthReceiverHuntEntry, State.takeSynthHunt_idle h]
  · rw [exec_synthReceiverSyncEntry, State.takeSynthSync_idle h]

/-! ### What the entry to HUNT does to a string (R34, R145) -/

section
variable {r : StringRecord} {stamp : Index} {u : StringUnit}

theorem huntString_left (left : u.state = .off ∨ u.state.faulted = true) :
    huntString r stamp u = { u with monitor := { u.monitor with clipRun := 0, stuckRun := 0, flagSeen := false, last := none } } := by
  cases state : u.state <;> simp_all [huntString, StringState.faulted]

theorem huntString_taken (taken : u.state = .attack ∨ u.state = .sounding ∨ u.state = .damped ∨ u.state = .idle) :
    huntString r stamp u = { ((endForced r.outputMode stamp .link u).silenceIn .idle) with
      monitor := { u.monitor with clipRun := 0, stuckRun := 0, flagSeen := false, last := none } } := by
  rcases taken with state | state | state | state <;> simp only [huntString, state]

end

/-- The store flushed for HUNT stays HALTED, or is in PREFILL (R156). -/
theorem Store.huntFlush_eq (st : Store) :
    st.huntFlush = { st with state := if st.state = .halted then .halted else .prefill, fill := 0, read := st.write } := by
  unfold Store.huntFlush
  cases state : st.state <;> rfl

theorem ReturnTx.rewind_eq (ret : ReturnTx) :
    ret.rewind = match ret with | .ready => .ready | .sending m _ => .sending m 0 := by
  cases ret <;> rfl

/-- Settles O43: the entry's own writes, then each string by its state. -/
theorem pickupHuntEntry : Obligations.PickupHuntEntry := by
  intro s sync bad
  refine ⟨s.huntUnits, ?_, fun n => ?_⟩
  · rw [exec_pickupHuntEntry, State.takePickupHunt_due sync bad, State.pickupHuntEntry, Store.huntFlush_eq, ReturnTx.rewind_eq]
    cases s.pickup.ret <;> rfl
  · rw [State.huntUnits, Six.get_ofFn]
    dsimp only
    refine ⟨huntString_left, fun quiet => ?_, fun attack => ?_, fun note sounding context => ⟨fun silent => ?_, fun announced accepts room => ?_⟩⟩
    · rw [huntString_taken (by tauto), endForced_of_not_tracked (by rcases quiet with e | e <;> rw [e] <;> rfl)]
      rfl
    · rw [huntString_taken (by tauto), endForced_attack attack]
      rfl
    · rw [huntString_taken (by tauto), endForced_sounding sounding, endNote_silent _ _ context silent]
      rfl
    · rw [huntString_taken (by tauto), endForced_sounding sounding, endNote_lifted _ _ context announced accepts room]
      rfl

/-! ### The completion of a message and the line clock (R124, R164) -/

/-- Settles O50, by the item of the message. -/
theorem transmissionCompleteUpdatesGroup : Obligations.TransmissionCompleteUpdatesGroup := by
  intro m s sending ended
  dsimp only
  refine ⟨fun n c note item => ?_, fun n note g item group => ?_, fun n item => ?_, fun item => ?_⟩
  all_goals rw [exec_transmissionComplete, State.complete_of_due sending ended, item]
  · rfl
  · simp only [State.completeItem, State.modUnit, group, Option.map_some]
    rfl
  · rfl
  · rfl

theorem exec_clockLost (s : State) : exec .clockLost s = .next s.clockLost := rfl
theorem exec_clockReturn (s : State) : exec .clockReturn s = .next s.clockReturn := rfl

section
variable {s : State}

theorem State.clockLost_absent (absent : s.synth.clock = .absent) : s.clockLost = s := by
  simp only [State.clockLost, absent]

theorem State.clockLost_present (present : s.synth.clock = .present) : s.clockLost =
    (let t := s.complete.rewind
     { t with store := t.store.flush .halted, synth := { t.synth with clock := .absent, side := none } }) := by
  simp only [State.clockLost, present]

/-- A completion leaves the line clock. -/
theorem State.complete_synth (s : State) : s.complete.synth = s.synth := by
  obtain ⟨units, state, e⟩ := s.complete_shape
  rw [e]

/-- A completion taken leaves none due. -/
theorem State.complete_complete (s : State) : s.complete.complete = s.complete := by
  rcases s.complete_cases with ⟨m, -, -, e⟩ | ⟨-, e⟩
  · rw [e]; rfl
  · rw [e, e]

end

/-- Settles O51: the loss with and without a completion due, the return, and the two that do nothing. -/
theorem clockLostAndReturn : Obligations.ClockLostAndReturn := by
  intro s
  dsimp only
  refine ⟨fun present idle => ?_, fun present _ t taken => ?_, fun absent => ?_, fun absent => ?_, fun present => ?_⟩
  · rw [exec_clockLost, State.clockLost_present present, State.complete_of_not_due idle, State.rewind]
    cases state : s.tx.state <;> simp only [← state] <;> rfl
  · rw [exec_transmissionComplete] at taken
    cases taken
    rw [exec_clockLost, exec_clockLost, State.clockLost_present present,
      State.clockLost_present (s.complete_synth ▸ present), State.complete_complete]
  · rw [exec_clockReturn]
    simp only [State.clockReturn, absent]
    rfl
  · rw [exec_clockLost, State.clockLost_absent absent]
  · rw [exec_clockReturn]
    simp only [State.clockReturn, present]

/-! ### Messages and the relay (R170, R172, R173) -/

section
variable {m : List Byte} {s : State}

theorem State.checkMessage_long (long : 65 ≤ m.length) : s.checkMessage m = (s.countLong, none) := if_pos (by omega)

theorem State.checkMessage_short (short : m.length ≤ 3) :
    s.checkMessage m = ({ s with link := { s.link with short := bump s.link.short } }, none) := by
  rw [State.checkMessage, if_neg (by omega), if_pos (by omega)]

theorem State.checkMessage_bad (atLeast : 4 ≤ m.length) (atMost : m.length ≤ 64) (bad : crcGood m = false) :
    s.checkMessage m = ({ s with link := { s.link with badCrc := bump s.link.badCrc } }, none) := by
  rw [State.checkMessage, if_neg (by omega), if_neg (by omega), if_neg (by simp [bad])]

theorem State.checkMessage_good (atLeast : 4 ≤ m.length) (atMost : m.length ≤ 64) (good : crcGood m = true) :
    s.checkMessage m = (s, some m) := by
  rw [State.checkMessage, if_neg (by omega), if_neg (by omega), if_pos good]

theorem State.offerUp_room (room : s.relayUp.length ≤ 1) : s.offerUp m = { s with relayUp := s.relayUp ++ [m] } := if_pos room
theorem State.offerUp_full (full : 2 ≤ s.relayUp.length) : s.offerUp m = s.countRelayDrop := if_neg (by omega)
theorem State.offerDown_room (room : s.relayDown.length ≤ 1) : s.offerDown m = { s with relayDown := s.relayDown ++ [m] } := if_pos room
theorem State.offerDown_full (full : 2 ≤ s.relayDown.length) : s.offerDown m = s.countRelayDrop := if_neg (by omega)

theorem exec_converterMessage_sync (sync : s.pickup.receiver.state = .sync) :
    exec (.converterMessage m) s = .next (s.converterMessage m) := by
  show Host.Outcome.next _ = _
  simp only [sync]

end

/-- Settles O45: the checks in their order, then the room of relay-down. -/
theorem converterMessageRelayed : Obligations.ConverterMessageRelayed := by
  intro m s
  refine ⟨fun hunt => ?_, fun sync => ⟨fun long => ?_, fun short => ?_, fun atLeast atMost => ⟨fun bad => ?_, fun good room => ?_, fun good full => ?_⟩⟩⟩
  · show Host.Outcome.next _ = _
    simp only [hunt]
  all_goals rw [exec_converterMessage_sync sync, State.converterMessage]
  · rw [State.checkMessage_long long]; rfl
  · rw [State.checkMessage_short short]; rfl
  · rw [State.checkMessage_bad atLeast atMost bad]; rfl
  · rw [State.checkMessage_good atLeast atMost good]
    exact congrArg _ (State.offerDown_room room)
  · rw [State.checkMessage_good atLeast atMost good]
    exact congrArg _ (State.offerDown_full full)

/-! ### Address recognition (R172) -/

section
variable {own : Nat} {address : Byte}

theorem routeOf_zero (own : Nat) : routeOf own 0 = .allCall := if_pos rfl

theorem byte_toNat_of_lt {v : Nat} (h : v < 256) : (byte v).toNat = v := (BitVec.toNat_ofNat v 8).trans (Nat.mod_eq_of_lt h)

theorem routeOf_own (sound : 1 ≤ own ∧ own ≤ 126) (h : address.toNat = own) : routeOf own address = .own := by
  rw [routeOf, if_neg, if_pos]
  · exact BitVec.eq_of_toNat_eq (h.trans (byte_toNat_of_lt (by omega)).symm)
  · rintro rfl
    exact absurd (show 0 = own from h) (by omega)

theorem routeOf_relay (sound : 1 ≤ own ∧ own ≤ 126) (nonzero : 1 ≤ address.toNat) (low : address.toNat ≤ 0x7E) (other : address.toNat ≠ own) :
    routeOf own address = .relay := by
  rw [routeOf, if_neg, if_neg, if_pos low]
  · rintro rfl
    exact other (byte_toNat_of_lt (by omega))
  · rintro rfl
    exact absurd nonzero (by decide)

theorem routeOf_discard (sound : 1 ≤ own ∧ own ≤ 126) (high : 0x7F ≤ address.toNat) : routeOf own address = .discard := by
  rw [routeOf, if_neg, if_neg, if_neg (by omega)]
  · rintro rfl
    rw [byte_toNat_of_lt (by omega)] at high
    omega
  · rintro rfl
    exact absurd high (by decide)

end

section
variable {m : List Byte} {s : State} (present : s.synth.clock = .present)
include present

theorem exec_relayUpMessage_delivered (checked : s.checkMessage m = (s, some m)) : exec (.relayUpMessage m) s = .next (s.relayUpSide m) := by
  show Host.Outcome.next _ = _
  simp only [present, checked]

theorem exec_relayUpMessage_dropped {t : State} (checked : s.checkMessage m = (t, none)) : exec (.relayUpMessage m) s = .next t := by
  show Host.Outcome.next _ = _
  simp only [present, checked]

end

/-- Settles O46: the check, then the route of the address and the room of relay-up. -/
theorem relayUpMessageRouted : Obligations.RelayUpMessageRouted := by
  intro a m s present sound atLeast atMost
  have own : 1 ≤ s.tables.device.address ∧ s.tables.device.address ≤ 126 := ⟨sound.1, sound.2.1⟩
  refine ⟨fun bad => ?_, fun good low other => ?_, fun good mine => ?_, fun good high => ?_⟩
  · rw [exec_relayUpMessage_dropped present (State.checkMessage_bad atLeast atMost bad)]; rfl
  · have route : routeOf s.tables.device.address a = .allCall ∨ routeOf s.tables.device.address a = .relay := by
      rcases Nat.eq_zero_or_pos a.toNat with zero | positive
      · rw [show a = 0 from BitVec.eq_of_toNat_eq zero]
        exact .inl (routeOf_zero _)
      · exact .inr (routeOf_relay own positive low other)
    have offered : s.relayUpSide (a :: m) = s.offerUp (a :: m) := by
      unfold State.relayUpSide
      rcases route with e | e <;> rw [List.headD_cons, e]
    rw [exec_relayUpMessage_delivered present (State.checkMessage_good atLeast atMost good), offered]
    exact ⟨fun room => congrArg _ (State.offerUp_room room), fun full => congrArg _ (State.offerUp_full full)⟩
  · rw [exec_relayUpMessage_delivered present (State.checkMessage_good atLeast atMost good), State.relayUpSide, List.headD_cons, routeOf_own own mine]
  · rw [exec_relayUpMessage_delivered present (State.checkMessage_good atLeast atMost good), State.relayUpSide, List.headD_cons, routeOf_discard own high]
    rfl

/-! ### Frame times in HUNT (R162) -/

theorem frameGood_some (bits : FrameBits) : frameGood (some bits) = true ↔ bits.extractLsb' 240 16 = 0xC6B3#16 := beq_iff_eq

theorem State.settlePickup_idle {s : State} (h : s.pickup.receiver.state = .sync ∧ s.pickup.receiver.bad ≤ 2 ∨
    s.pickup.receiver.state = .hunt ∧ s.pickup.receiver.good ≤ 1) : s.settlePickup = s := by
  unfold State.settlePickup
  rcases h with ⟨sync, few⟩ | ⟨hunt, few⟩
  · rw [sync]; exact State.takePickupHunt_idle (.inr few)
  · rw [hunt]; exact State.takePickupSync_idle (.inr few)

theorem State.settlePickup_hunts {s : State} (sync : s.pickup.receiver.state = .sync) (bad : 3 ≤ s.pickup.receiver.bad) :
    s.settlePickup = s.pickupHuntEntry := by
  unfold State.settlePickup
  rw [sync]
  exact State.takePickupHunt_due sync bad

theorem State.settlePickup_syncs {s : State} (hunt : s.pickup.receiver.state = .hunt) (good : 2 ≤ s.pickup.receiver.good) :
    s.settlePickup = s.pickupSyncEntry := by
  unfold State.settlePickup
  rw [hunt]
  exact State.takePickupSync_due hunt good

section
variable {r : Receiver} {good : Bool}

theorem Receiver.judge_hunt (hunt : r.state = .hunt) : r.judge good = ({ r with good := if good then r.good + 1 else 0 }, false) := by
  simp only [Receiver.judge, hunt]

theorem Receiver.judge_good (sync : r.state = .sync) (h : good = true) : r.judge good = ({ r with bad := 0 }, true) := by
  simp only [Receiver.judge, sync, h, if_true]

theorem Receiver.judge_bad (sync : r.state = .sync) (h : good = false) : r.judge good = ({ r with bad := r.bad + 1 }, decide (r.bad + 1 < 3)) := by
  simp only [Receiver.judge, sync, h, Bool.false_eq_true, if_false]

end

theorem exec_pickupForwardFrame (frame : Option FrameBits) (order : FrameOrder) (s : State) :
    exec (.pickupForwardFrame frame order) s = .next (s.pickupFrame frame order) := rfl

theorem drawn_eq (frame : Option FrameBits) (drawn : Nat) :
    drawn + (if frame.isNone then 1 else 0) = drawn + if frame = none then 1 else 0 := by
  cases frame <;> rfl

/-- Settles O40: the pattern, then the judgement of a frame time in HUNT, with or without the entry to SYNC. -/
theorem huntDiscardsFrames : Obligations.HuntDiscardsFrames := by
  refine ⟨frameGood_some, rfl, fun frame order s hunt few free idle => ?_⟩
  dsimp only
  rw [exec_pickupForwardFrame, State.pickupFrame_of_none frame order s idle free, State.settlePickup_idle (.inr ⟨hunt, few⟩), drawn_eq]
  simp only [State.judgePickup, Receiver.judge_hunt hunt, Bool.false_eq_true, if_false]
  generalize (if frameGood frame = true then s.pickup.receiver.good + 1 else 0) = run
  refine ⟨fun stays => ?_, fun second released => ?_⟩
  · cases held : order.hold
    · have small : run ≤ 1 := by
        rcases stays with small | hold
        · exact small
        · rw [held] at hold; cases hold
      rw [if_neg Bool.false_ne_true, State.settlePickup_idle (by exact .inr ⟨hunt, small⟩)]
    · rw [if_pos rfl]
  · rw [released, if_neg Bool.false_ne_true, State.settlePickup_syncs (by exact hunt) (by exact second.ge)]
    rfl

end Sys2Proof.Machine
end

section
/-! The synth forward frame: the store's record, the transmitter's byte, and the completion of a message. -/

namespace Sys2Proof.Machine

/-! ### The store's part (R152 to R154) -/

/-- The part after a read of the store that left it as `store`, with the accounting of a REPEAT slip (R153, R154). -/
def State.readWith (store : Store) (repeated : Option Nat) (s : State) : State :=
  match repeated with
  | none => { s with store := store }
  | some frames => State.offerNotice
      { s with store := store, link := { s.link with repeatSlips := bump s.link.repeatSlips } } (.slip .repeat frames)

theorem State.readStore_of_readOut {s : State} {store : Store} {record : FrameRecord} {prefill : Bool} {repeated : Option Nat}
    (read : s.store.readOut = ⟨store, record, prefill, repeated⟩) :
    s.readStore = (s.readWith store repeated, record, prefill) := by
  unfold State.readStore
  rw [read]
  cases repeated <;> rfl

/-- An offered notice and the transmitter's state do not meet. -/
theorem State.setTx_offerNotice (s : State) (x : TxState) (notice : Notice) : (s.setTx x).offerNotice notice = (s.offerNotice notice).setTx x := by
  rcases s.offerNotice_cases notice with ⟨masked, e⟩ | ⟨enabled, room, e⟩ | ⟨enabled, full, e⟩ <;> rw [e]
  · exact State.offerNotice_masked (by exact masked)
  · exact State.offerNotice_joins (by exact enabled) (by exact room)
  · exact State.offerNotice_lost (by exact enabled) (by exact full)

theorem State.setTx_readWith (s : State) (x : TxState) (store : Store) (repeated : Option Nat) :
    (s.setTx x).readWith store repeated = (s.readWith store repeated).setTx x := by
  cases repeated with
  | none => rfl
  | some frames => 
    exact State.setTx_offerNotice { s with store := store, link := { s.link with repeatSlips := bump s.link.repeatSlips } } x _

section
variable (s : State) (store : Store) (repeated : Option Nat)

@[simp] theorem State.readWith_tx_state : (s.readWith store repeated).tx.state = s.tx.state := by
  cases repeated <;> simp [State.readWith]

@[simp] theorem State.readWith_pickup : (s.readWith store repeated).pickup = s.pickup := by
  cases repeated <;> simp [State.readWith]

@[simp] theorem State.readWith_synth : (s.readWith store repeated).synth = s.synth := by
  cases repeated <;> simp [State.readWith]

@[simp] theorem State.readWith_store : (s.readWith store repeated).store = store := by
  cases repeated <;> simp [State.readWith]

end

/-! ### The transmitter's part (R119) -/

theorem State.sideByte_aborting {s : State} (aborting : s.tx.state = .aborting) : s.sideByte = (s.setTx .ready, .idle, 0) := by
  simp only [State.sideByte, aborting]

theorem State.sideByte_sending {s : State} {m : InFlight} (sending : s.tx.state = .sending m) :
    s.sideByte = (s.setTx (.sending m.send.1), m.send.2) := by
  simp only [State.sideByte, sending]

theorem State.sideByte_idle {s t : State} (ready : s.tx.state = .ready) (picked : s.pick = (t, none)) : s.sideByte = (t, .idle, 0) := by
  simp only [State.sideByte, ready, picked]

theorem State.sideByte_picked {s t : State} {m : InFlight} (ready : s.tx.state = .ready) (picked : s.pick = (t, some m)) :
    s.sideByte = (t.setTx (.sending m.send.1), m.send.2) := by
  simp only [State.sideByte, ready, picked]

/-! ### The two answers (R166) -/

section
variable {s : State} {store : Store} {record : FrameRecord} {prefill : Bool} {repeated : Option Nat} {first : Bool}
  (read : s.store.readOut = ⟨store, record, prefill, repeated⟩)
include read

/-- Where the transmitter's byte depends on its state alone, the order of the two answers does not show. -/
theorem State.frameAnswers_of_fixed {x : TxState} {tag : Tag} {b : Byte}
    (fixed : ∀ t : State, t.tx.state = s.tx.state → t.sideByte = (t.setTx x, tag, b)) :
    s.frameAnswers first = ((s.readWith store repeated).setTx x, record, prefill, tag, b) := by
  unfold State.frameAnswers
  cases first
  · rw [if_neg Bool.false_ne_true, State.readStore_of_readOut read]
    dsimp only
    rw [fixed _ (State.readWith_tx_state s store repeated)]
  · rw [if_pos rfl, fixed s rfl]
    dsimp only
    rw [State.readStore_of_readOut (s := s.setTx x) read, State.setTx_readWith]

/-- The two answers in READY, by what the arbiter picks in the order named. -/
theorem State.frameAnswers_ready {t : State} {picked : Option InFlight} (ready : s.tx.state = .ready)
    (pick : (if first then s.pick else (s.readWith store repeated).pick) = (t, picked)) :
    s.frameAnswers first =
      (match picked with
       | none => ((if first then t.readWith store repeated else t), record, prefill, .idle, 0)
       | some m => ((if first then t.readWith store repeated else t).setTx (.sending m.send.1), record, prefill, m.send.2)) := by
  unfold State.frameAnswers
  cases first
  · rw [if_neg Bool.false_ne_true] at pick ⊢
    rw [State.readStore_of_readOut read]
    dsimp only
    have ready' := (State.readWith_tx_state s store repeated).trans ready
    cases picked with
    | none => rw [State.sideByte_idle ready' pick]; rfl
    | some m => rw [State.sideByte_picked ready' pick]; rfl
  · rw [if_pos rfl] at pick ⊢
    have kept : t.store = s.store := by
      have := State.pick_keeps (P := fun t => t.store = s.store) (fun _ _ h => h) (fun _ _ _ h => h) (fun _ _ _ _ h => h)
        (fun _ _ _ _ h => h) (fun _ _ _ _ h => h) s rfl
      rwa [pick] at this
    have read' : t.store.readOut = ⟨store, record, prefill, repeated⟩ := kept ▸ read
    cases picked with
    | none =>
      rw [State.sideByte_idle ready pick]
      dsimp only
      rw [State.readStore_of_readOut read']
      rfl
    | some m =>
      rw [State.sideByte_picked ready pick]
      dsimp only
      rw [State.readStore_of_readOut (s := t.setTx (.sending m.send.1)) read', State.setTx_readWith]
      rfl

end

/-! ### The frame (R166) -/

/-- A synth forward frame put on the line. -/
def State.putFrame (record : FrameRecord) (prefill : Bool) (tag : Tag) (b : Byte) (s : State) : State :=
  { s with synthOut := some (synthForwardFrame record prefill (s.pickup.receiver.state == .sync) tag b) }

theorem exec_synthForwardFrame (order : SynthOrder) (s : State) : exec (.synthForwardFrame order) s = .next (s.synthFrame order) := rfl

theorem State.synthFrame_absent {s : State} {order : SynthOrder} (absent : s.synth.clock = .absent) :
    s.synthFrame order = { s with synthOut := none } := by
  simp only [State.synthFrame, absent]

theorem State.synthFrame_present {s t : State} {order : SynthOrder} {record : FrameRecord} {prefill : Bool} {tag : Tag} {b : Byte}
    (present : s.synth.clock = .present) (answers : s.complete.frameAnswers order.transmitterFirst = (t, record, prefill, tag, b)) :
    s.synthFrame order =
      (if order.hold then t.putFrame record prefill tag b else (t.putFrame record prefill tag b).complete) := by
  simp only [State.synthFrame, present, answers]
  rfl

theorem State.completeItem_setTx (s : State) (x : TxState) (item : TxItem) : (s.setTx x).completeItem item = (s.completeItem item).setTx x := by
  cases item <;> rfl

theorem Transmitter.not_completionDue {tx : Transmitter} (h : ∀ m, tx.state = .sending m → m.position < m.bytes.length) : ¬ tx.CompletionDue := by
  rintro ⟨m, sending, ended⟩
  have := h m sending
  omega

/-- The tag of a byte by its position. -/
theorem positionTag_eq (length position : Nat) :
    positionTag length position = if position = 0 then .first else if position + 1 = length then .last else .mid := rfl

theorem State.pick_tx_state_eq {s t : State} {picked : Option InFlight} (pick : s.pick = (t, picked)) : t.tx.state = s.tx.state := by
  rw [← State.pick_tx_state s, pick]

theorem State.pick_pickup_eq {s t : State} {picked : Option InFlight} (pick : s.pick = (t, picked)) : t.pickup = s.pickup := by
  have := State.pick_keeps (P := fun t => t.pickup = s.pickup) (fun _ _ h => h) (fun _ _ _ h => h) (fun _ _ _ _ h => h)
    (fun _ _ _ _ h => h) (fun _ _ _ _ h => h) s rfl
  rwa [pick] at this

/-- The frame sent with the transmitter's state as it leaves it. -/
theorem State.putFrame_setTx {s t : State} (pickup : t.pickup = s.pickup) (x : TxState) (record : FrameRecord) (prefill : Bool) (tag : Tag)
    (b : Byte) : (t.setTx x).putFrame record prefill tag b =
      { t with
        tx := { t.tx with state := x }
        synthOut := some (synthForwardFrame record prefill (s.pickup.receiver.state == .sync) tag b) } := by
  rw [← pickup]
  rfl

/-- The frame of a transmitter whose completion is not due, in the store's order of the two answers. -/
theorem State.synthFrame_idle {s t : State} {order : SynthOrder} {record : FrameRecord} {prefill : Bool} {tag : Tag} {b : Byte}
    (present : s.synth.clock = .present) (idle : ¬ s.tx.CompletionDue)
    (answers : s.frameAnswers order.transmitterFirst = (t, record, prefill, tag, b)) :
    s.synthFrame order =
      (if order.hold then t.putFrame record prefill tag b else (t.putFrame record prefill tag b).complete) :=
  State.synthFrame_present present (by rw [State.complete_of_not_due idle]; exact answers)

theorem exec_synthForwardFrame_complete {s : State} {order : SynthOrder} (present : s.synth.clock = .present) :
    s.synthFrame order = s.complete.synthFrame order := by
  rw [State.synthFrame_present present rfl, State.synthFrame_present (s.complete_synth ▸ present) rfl, State.complete_complete]

/-- Settles O48: the frame by the state of the clock and of the transmitter. -/
theorem synthForwardFrameSent : Obligations.SynthForwardFrameSent := by
  intro order s store record prefill repeated read sent grouped
  have read_eq : read = State.readWith store repeated := by
    funext t
    cases repeated <;> rfl
  have grouped_eq : grouped = State.completeItem := by
    funext item t
    cases item <;> rfl
  clear_value read grouped
  subst read_eq grouped_eq
  have keeps : ∀ (t : State), t.pickup = s.pickup → ∀ x tag b, (t.setTx x).putFrame record prefill tag b = sent t x tag b :=
    fun t pickup x tag b => State.putFrame_setTx pickup x record prefill tag b
  refine ⟨fun absent => ?_, fun present due t taken => ?_, fun present readOut => ⟨fun aborting => ?_, fun m sending inside => ?_,
    fun ready t picked pick => ?_⟩⟩
  · rw [exec_synthForwardFrame, State.synthFrame_absent absent]
  · rw [exec_transmissionComplete] at taken
    cases taken
    rw [exec_synthForwardFrame, exec_synthForwardFrame, exec_synthForwardFrame_complete present]
  · have idle : ¬ s.tx.CompletionDue := Transmitter.not_completionDue fun m sending => by rw [aborting] at sending; cases sending
    have answers := State.frameAnswers_of_fixed (first := order.transmitterFirst) readOut
      fun t same => State.sideByte_aborting (same.trans aborting)
    rw [exec_synthForwardFrame, State.synthFrame_idle present idle answers, keeps _ (State.readWith_pickup ..), State.complete_of_not_due]
    · exact congrArg _ (ite_self _)
    · exact Transmitter.not_completionDue fun m sending => by cases sending
  · have idle : ¬ s.tx.CompletionDue := Transmitter.not_completionDue fun m' sending' => by rw [sending] at sending'; cases sending'; exact inside
    have answers := State.frameAnswers_of_fixed (first := order.transmitterFirst) readOut
      fun t same => State.sideByte_sending (same.trans sending)
    rw [exec_synthForwardFrame, State.synthFrame_idle present idle answers, keeps _ (State.readWith_pickup ..)]
    refine ⟨fun stays => ?_, fun last released => ?_⟩
    · rcases stays with more | held
      · rw [State.complete_of_not_due, ite_self]
        · rfl
        · refine Transmitter.not_completionDue fun m' sending' => ?_
          cases sending'
          exact more
      · rw [held]
        rfl
    · rw [released, if_neg Bool.false_ne_true, State.complete_of_due (m := m.send.1) rfl (by exact last.ge), ← State.completeItem_setTx]
      rfl
  · have idle : ¬ s.tx.CompletionDue := Transmitter.not_completionDue fun m sending => by rw [ready] at sending; cases sending
    have answers := State.frameAnswers_ready readOut ready pick
    generalize result : (if order.transmitterFirst = true then State.readWith store repeated t else t) = after at answers ⊢
    have kept : after.pickup = s.pickup ∧ after.tx.state = .ready := by
      rw [← result, ← ready]
      cases first : order.transmitterFirst <;> rw [first] at pick
      · exact ⟨(State.pick_pickup_eq pick).trans (State.readWith_pickup ..), (State.pick_tx_state_eq pick).trans (State.readWith_tx_state ..)⟩
      · exact ⟨(State.readWith_pickup ..).trans (State.pick_pickup_eq pick), (State.readWith_tx_state ..).trans (State.pick_tx_state_eq pick)⟩
    obtain ⟨pickup, state⟩ := kept
    refine ⟨fun nothing => ?_, fun m taken start long => ?_⟩
    · subst nothing
      have self : after.setTx .ready = after := by rw [← state]; rfl
      have put := keeps after pickup .ready .idle 0
      rw [self] at put
      rw [exec_synthForwardFrame, State.synthFrame_idle present idle answers, put, State.complete_of_not_due, ite_self]
      exact Transmitter.not_completionDue fun m sending => by cases sending
    · subst taken
      rw [exec_synthForwardFrame, State.synthFrame_idle present idle answers, keeps _ pickup, State.complete_of_not_due, ite_self]
      · obtain ⟨item, bytes, position⟩ := m
        cases start
        rfl
      · refine Transmitter.not_completionDue fun m' sending' => ?_
        cases sending'
        show m.position + 1 < m.bytes.length
        omega

end Sys2Proof.Machine
end

section
/-! The synth return frame: the judgement, the side-channel receiver, the delivery of a message, and requests by their kind. -/

namespace Sys2Proof.Machine

/-! ### Messages with their CRC (R123, R170, R191) -/

theorem length_crcBytes (c : BitVec 16) : (crcBytes c).length = 2 := rfl

theorem length_withCrc (bytes : List Byte) : (withCrc bytes).length = bytes.length + 2 := List.length_append

theorem take_withCrc (bytes : List Byte) : (withCrc bytes).take ((withCrc bytes).length - 2) = bytes := by
  rw [length_withCrc, Nat.add_sub_cancel]
  exact List.take_left

theorem drop_withCrc (bytes : List Byte) : (withCrc bytes).drop ((withCrc bytes).length - 2) = crcBytes (crc bytes) := by
  rw [length_withCrc, Nat.add_sub_cancel]
  exact List.drop_left

/-- A message with its own CRC passes the check (R170). -/
theorem crcGood_withCrc (bytes : List Byte) : crcGood (withCrc bytes) = true := by
  rw [crcGood, take_withCrc, drop_withCrc]
  exact beq_self_eq_true _

/-! ### The synth receiver's judgement (R165) -/

theorem exec_synthReturnFrame (bits : FrameBits) (order : ReturnOrder) (s : State) :
    exec (.synthReturnFrame bits order) s = .next (s.returnFrame bits order) := rfl

theorem State.settleSynth_idle {s : State} (h : s.synth.receiver.state = .sync ∧ s.synth.receiver.bad ≤ 2 ∨
    s.synth.receiver.state = .hunt ∧ s.synth.receiver.good ≤ 1) : s.settleSynth = s := by
  unfold State.settleSynth
  rcases h with ⟨sync, few⟩ | ⟨hunt, few⟩
  · rw [sync]; exact State.takeSynthHunt_idle (.inr few)
  · rw [hunt]; exact State.takeSynthSync_idle (.inr few)

theorem State.settleSynth_hunts {s : State} (sync : s.synth.receiver.state = .sync) (bad : 3 ≤ s.synth.receiver.bad) :
    s.settleSynth = s.synthHuntEntry := by
  unfold State.settleSynth
  rw [sync]
  exact State.takeSynthHunt_due sync bad

theorem State.settleSynth_syncs {s : State} (hunt : s.synth.receiver.state = .hunt) (good : 2 ≤ s.synth.receiver.good) :
    s.settleSynth = s.synthSyncEntry := by
  unfold State.settleSynth
  rw [hunt]
  exact State.takeSynthSync_due hunt good

/-- A synth return frame with no entry due: judged, and taken where the judgement says so. -/
theorem State.returnFrame_judged {s : State} {bits : FrameBits} {order : ReturnOrder} {receiver : Receiver} {taken : Bool}
    (present : s.synth.clock = .present)
    (idle : s.synth.receiver.state = .sync ∧ s.synth.receiver.bad ≤ 2 ∨ s.synth.receiver.state = .hunt ∧ s.synth.receiver.good ≤ 1)
    (judged : s.synth.receiver.judge (goodSync bits) = (receiver, taken)) :
    s.returnFrame bits order =
      (let t := { s with synth := { s.synth with receiver := receiver } }
       let u := if order.hold then t else t.settleSynth
       if taken then u.returnSideByte (returnTag bits) (returnSide bits) order else u) := by
  simp only [State.returnFrame, present, State.settleSynth_idle idle, State.judgeSynth, judged]

/-! ### The side byte (R168, R169) -/

section
variable {tag : Tag} {b : Byte} {order : ReturnOrder} {s : State}

theorem State.returnSideByte_quiet {side : SideReceiver} (taken : takeSideByte tag b s.synth.side = (side, .none)) :
    s.returnSideByte tag b order = { s with synth := { s.synth with side := side } } := by
  simp only [State.returnSideByte, taken]

theorem State.returnSideByte_abort {side : SideReceiver} (taken : takeSideByte tag b s.synth.side = (side, .abort)) :
    s.returnSideByte tag b order = State.countAbort { s with synth := { s.synth with side := side } } := by
  simp only [State.returnSideByte, taken]

theorem State.returnSideByte_long {side : SideReceiver} (taken : takeSideByte tag b s.synth.side = (side, .long)) :
    s.returnSideByte tag b order = State.countLong { s with synth := { s.synth with side := side } } := by
  simp only [State.returnSideByte, taken]

theorem State.returnSideByte_complete {side : SideReceiver} {m : List Byte} (taken : takeSideByte tag b s.synth.side = (side, .complete m)) :
    s.returnSideByte tag b order = State.returnMessage m order { s with synth := { s.synth with side := side } } := by
  simp only [State.returnSideByte, taken]

end

section
variable {b : Byte} {buffer : List Byte}

theorem takeSideByte_closed {tag : Tag} (h : tag ≠ .first) : takeSideByte tag b none = (none, .none) := by
  cases tag <;> first | rfl | exact absurd rfl h

theorem takeSideByte_mid (room : buffer.length ≤ 63) : takeSideByte .mid b (some buffer) = (some (buffer ++ [b]), .none) := by
  simp only [takeSideByte]
  rw [if_neg (by omega)]

theorem takeSideByte_last (room : buffer.length ≤ 63) : takeSideByte .last b (some buffer) = (none, .complete (buffer ++ [b])) := by
  simp only [takeSideByte]
  rw [if_neg (by omega)]

theorem takeSideByte_overrun {tag : Tag} (h : tag = .mid ∨ tag = .last) (full : 64 ≤ buffer.length) :
    takeSideByte tag b (some buffer) = (none, .long) := by
  rcases h with rfl | rfl <;> exact if_pos full

end

/-! ### Delivery (R172) -/

section
variable {m : List Byte} {order : ReturnOrder} {s : State}

theorem State.returnMessage_short (short : m.length ≤ 3) :
    s.returnMessage m order = { s with link := { s.link with short := bump s.link.short } } := by
  rw [State.returnMessage, State.checkMessage_short short]

theorem State.returnMessage_bad (atLeast : 4 ≤ m.length) (atMost : m.length ≤ 64) (bad : crcGood m = false) :
    s.returnMessage m order = { s with link := { s.link with badCrc := bump s.link.badCrc } } := by
  rw [State.returnMessage, State.checkMessage_bad atLeast atMost bad]

theorem State.returnMessage_good (atLeast : 4 ≤ m.length) (atMost : m.length ≤ 64) (good : crcGood m = true) :
    s.returnMessage m order = s.deliver m order := by
  rw [State.returnMessage, State.checkMessage_good atLeast atMost good]

variable {address kind : Byte} {body : List Byte}

theorem headD_withCrc (rest : List Byte) : (withCrc (address :: rest)).headD 0 = address := rfl

theorem State.manage_withCrc (reset : ResetOrder) :
    s.manage (withCrc (address :: kind :: body)) reset = s.request kind body reset := by
  have kind_eq : messageKind (withCrc (address :: kind :: body)) = kind := rfl
  have body_eq : messageBody (withCrc (address :: kind :: body)) = body := by
    rw [messageBody, take_withCrc]
    rfl
  rw [State.manage, kind_eq, body_eq]

theorem State.deliver_own (route : routeOf s.tables.device.address address = .own) :
    s.deliver (withCrc (address :: kind :: body)) order = s.request kind body order.reset := by
  rw [State.deliver, headD_withCrc, route]
  exact State.manage_withCrc order.reset

theorem State.deliver_relay (route : routeOf s.tables.device.address address = .relay) :
    s.deliver (withCrc (address :: kind :: body)) order = s.offerUp (withCrc (address :: kind :: body)) := by
  rw [State.deliver, headD_withCrc, route]

theorem State.deliver_discard (route : routeOf s.tables.device.address address = .discard) :
    s.deliver (withCrc (address :: kind :: body)) order = { s with link := { s.link with badAddress := bump s.link.badAddress } } := by
  rw [State.deliver, headD_withCrc, route]

theorem State.deliver_allCall (route : routeOf s.tables.device.address address = .allCall) :
    s.deliver (withCrc (address :: kind :: body)) order =
      (if order.relayFirst then (s.offerUp (withCrc (address :: kind :: body))).request kind body order.reset
       else (s.request kind body order.reset).offerUp (withCrc (address :: kind :: body))) := by
  rw [State.deliver, headD_withCrc, route]
  dsimp only
  rw [State.allCall, State.manage_withCrc, State.manage_withCrc]

end

/-- A request of no request's kind is answered as a bad kind (R177). -/
theorem State.request_badKind {kind : Byte} (unknown : isRequestKind kind = false) (body : List Byte) (order : ResetOrder) (s : State) :
    s.request kind body order = s.serve kind body badKindRequest := by
  have apart : ∀ known : Byte, isRequestKind known = true → kind ≠ known := by
    rintro known isKind rfl
    rw [unknown] at isKind
    cases isKind
  unfold State.request
  rw [if_neg (apart _ rfl), if_neg (apart _ rfl), if_neg (apart _ rfl), if_neg (apart _ rfl), if_neg (apart _ rfl), if_neg (apart _ rfl),
    if_neg (apart _ rfl), if_neg (apart _ rfl)]

/-- A frame time taken in SYNC leaves no entry due, and its side byte goes to the receiver. -/
theorem State.returnFrame_taken {s : State} {bits : FrameBits} {order : ReturnOrder} (present : s.synth.clock = .present)
    (sync : s.synth.receiver.state = .sync) (few : s.synth.receiver.bad ≤ 2) (taken : goodSync bits = true ∨ s.synth.receiver.bad ≤ 1) :
    s.returnFrame bits order =
      State.returnSideByte (returnTag bits) (returnSide bits) order
        { s with synth := { s.synth with receiver :=
            { s.synth.receiver with bad := if goodSync bits then 0 else s.synth.receiver.bad + 1 } } } := by
  have judged : s.synth.receiver.judge (goodSync bits) =
      ({ s.synth.receiver with bad := if goodSync bits then 0 else s.synth.receiver.bad + 1 }, true) := by
    cases good : goodSync bits
    · have fewer : s.synth.receiver.bad ≤ 1 := by
        rcases taken with h | h
        · rw [good] at h; cases h
        · exact h
      rw [Receiver.judge_bad sync rfl, decide_eq_true (by omega)]
      rfl
    · rw [Receiver.judge_good sync rfl]
      rfl
  rw [State.returnFrame_judged present (.inl ⟨sync, few⟩) judged]
  dsimp only
  rw [State.settleSynth_idle, ite_self, if_pos rfl]
  refine .inl ⟨sync, ?_⟩
  rcases taken with good | fewer
  · simp [good]
  · dsimp only
    split <;> omega

/-- Settles O47: the judgement, the side byte by its tag and the open message, the delivery, and the kinds of request. -/
theorem synthReturnFrameTaken : Obligations.SynthReturnFrameTaken := by
  refine ⟨fun bits order s => ?_, fun kind tag body order s => ⟨rfl, rfl, rfl, rfl, rfl, rfl, rfl, rfl, rfl, fun unknown => ?_⟩⟩
  · dsimp only
    simp only [exec_synthReturnFrame]
    refine ⟨fun absent => ?_, fun present hunt few quiet => ?_, fun present hunt one good released => ?_,
      fun present sync two bad => ⟨fun held => ?_, fun released => ?_⟩, fun present sync few taken => ?_⟩
    · simp only [State.returnFrame, absent]
    · rw [State.returnFrame_judged present (.inr ⟨hunt, few⟩) (Receiver.judge_hunt hunt)]
      dsimp only
      rw [if_neg Bool.false_ne_true]
      cases held : order.hold
      · rw [if_neg Bool.false_ne_true, State.settleSynth_idle]
        refine .inr ⟨hunt, ?_⟩
        rcases quiet with bad | none | hold
        · simp [bad]
        · dsimp only
          split <;> omega
        · rw [held] at hold; cases hold
      · rw [if_pos rfl]
    · rw [State.returnFrame_judged present (.inr ⟨hunt, one.le⟩) (Receiver.judge_hunt hunt), good, released, one]
      dsimp only
      rw [if_neg Bool.false_ne_true, if_neg Bool.false_ne_true, State.settleSynth_syncs (by exact hunt) (by exact Nat.le_refl 2)]
      rfl
    · rw [State.returnFrame_judged present (.inl ⟨sync, two.le⟩) (Receiver.judge_bad sync bad), two, held]
      rfl
    · rw [State.returnFrame_judged present (.inl ⟨sync, two.le⟩) (Receiver.judge_bad sync bad), two, released]
      dsimp only
      rw [if_neg (by decide), if_neg Bool.false_ne_true, State.settleSynth_hunts (by exact sync) (by exact Nat.le_refl 3)]
      rfl
    · rw [State.returnFrame_taken present sync few taken]
      refine ⟨fun first closed => ?_, fun other closed => ?_, fun buffer opened => ⟨fun first => ?_, fun idle => ?_, fun mid room => ?_,
        fun part full => ?_, fun last short => ?_, fun last atLeast atMost bad => ?_, fun address kind body last whole fits sound => ?_⟩⟩
      · rw [first, State.returnSideByte_quiet (side := some [returnSide bits]) (by rw [closed]; rfl)]
      · rw [State.returnSideByte_quiet (by rw [closed]; exact takeSideByte_closed other)]
      · rw [first, State.returnSideByte_abort (side := some [returnSide bits]) (by rw [opened]; rfl)]
        rfl
      · rw [idle, State.returnSideByte_abort (side := none) (by rw [opened]; rfl)]
        rfl
      · rw [mid, State.returnSideByte_quiet (by rw [opened]; exact takeSideByte_mid room)]
      · rw [State.returnSideByte_long (by rw [opened]; exact takeSideByte_overrun part full)]
        rfl
      · rw [last, State.returnSideByte_complete (by rw [opened]; exact takeSideByte_last (by omega)),
          State.returnMessage_short (by rw [List.length_append, List.length_singleton]; omega)]
        rfl
      · rw [last, State.returnSideByte_complete (by rw [opened]; exact takeSideByte_last (by omega)),
          State.returnMessage_bad (by rw [List.length_append, List.length_singleton]; omega)
            (by rw [List.length_append, List.length_singleton]; omega) bad]
        rfl
      · have length : (withCrc (address :: kind :: body)).length = body.length + 4 := length_withCrc _
        have buffered : buffer.length + 1 = body.length + 4 := by
          rw [← length, ← whole, List.length_append, List.length_singleton]
        have own : 1 ≤ s.tables.device.address ∧ s.tables.device.address ≤ 126 := ⟨sound.1, sound.2.1⟩
        rw [last, State.returnSideByte_complete (by rw [opened]; exact takeSideByte_last (by omega)), whole,
          State.returnMessage_good (by omega) (by omega) (crcGood_withCrc _)]
        refine ⟨fun mine => ?_, fun nonzero low other => ?_, fun high => ?_, fun zero => ?_⟩
        · rw [State.deliver_own (by exact routeOf_own own mine)]
        · rw [State.deliver_relay (by exact routeOf_relay own nonzero low other)]
          rfl
        · rw [State.deliver_discard (by exact routeOf_discard own high)]
          rfl
        · rw [State.deliver_allCall (by rw [zero]; exact routeOf_zero _)]
          rfl
  · rw [State.request_badKind unknown]
    rfl

end Sys2Proof.Machine
end

section
/-! Consecutive synth frames carry consecutive indices: which record a read takes, counted back from the newest. -/

namespace Sys2Proof.Machine

/-! ### The record that a read takes (R152, R153) -/

/-- The place of the record read next, counted back from the newest: a REPEAT slip goes back to a fill of 16 (R153). -/
def Store.age (st : Store) : Nat := if st.fill ≤ 2 then 15 else st.fill - 1

section
variable {st : Store} (flowing : st.state = .flowing) (sound : st.Sound)
include flowing sound

theorem Store.fill_between : 2 ≤ st.fill ∧ st.fill ≤ 30 := sound.2.2.2 flowing

theorem Store.retreat_write {k j : Nat} (age : st.fill + k = j + 1) (small : j ≤ 31) :
    retreat st.read k = retreat st.write (j + 1) := by
  have range := Store.fill_between flowing sound
  have lead := sound.1
  rw [advance_eq_iff] at lead
  have := st.read.isLt
  apply Fin.ext
  simp only [retreat_val]
  omega

theorem Store.readOut_record : st.readOut.record = st.newest st.age := by
  have range := Store.fill_between flowing sound
  unfold Store.newest Store.age
  rcases Nat.lt_or_ge 2 st.fill with more | low
  · have place := Store.retreat_write flowing sound (k := 0) (j := st.fill - 1) (by omega) (by omega)
    have self : retreat st.read 0 = st.read := Fin.ext (by rw [retreat_val]; have := st.read.isLt; omega)
    rw [Store.readOut_flowing flowing more, if_neg (by omega), ← place, self]
    rfl
  · have place := Store.retreat_write flowing sound (k := 16 - st.fill) (j := 15) (by omega) (by omega)
    rw [Store.readOut_repeat flowing low, if_pos low, ← place]
    rfl

omit sound in
theorem Store.readOut_fill : st.readOut.store.fill = st.age := by
  unfold Store.age
  rcases Nat.lt_or_ge 2 st.fill with more | low
  · rw [Store.readOut_flowing flowing more, if_neg (by omega)]
    rfl
  · rw [Store.readOut_repeat flowing low, if_pos low]
    rfl

omit sound in
theorem Store.readOut_newest (j : Nat) : st.readOut.store.newest j = st.newest j := by
  unfold Store.newest
  rcases Nat.lt_or_ge 2 st.fill with more | low
  · rw [Store.readOut_flowing flowing more]
    rfl
  · rw [Store.readOut_repeat flowing low]
    rfl

/-- Two reads in a row take consecutive records, but across a REPEAT slip (R158). -/
theorem Store.consecutive_reads {last : Index} (run : st.Run last) :
    st.readOut.store.readOut.record.index = st.readOut.record.index + if st.fill = 3 then 0xFFF3#16 else 1#16 := by
  have range := Store.fill_between flowing sound
  have flowing' : st.readOut.store.state = .flowing := (Store.readOut_state st).trans flowing
  have first : st.age = if st.fill = 2 then 15 else st.fill - 1 := by
    unfold Store.age
    split_ifs <;> omega
  have second : st.readOut.store.age = if st.fill = 2 then 14 else if st.fill = 3 then 15 else st.fill - 2 := by
    rw [Store.age, Store.readOut_fill flowing, first]
    split_ifs <;> omega
  have length : st.runLength = max 16 st.fill := by rw [Store.runLength, flowing]
  have ages : st.age < st.runLength ∧ st.readOut.store.age < st.runLength := by
    rw [first, second, length]
    constructor <;> split_ifs <;> omega
  rw [Store.readOut_record flowing' sound.readOut, Store.readOut_newest flowing, Store.readOut_record flowing sound,
    run _ ages.1, run _ ages.2, second, first]
  by_cases three : st.fill = 3
  · rw [three]
    simp only [Nat.reduceEqDiff, if_true, if_false]
    bv_omega
  · rw [if_neg three, if_neg three]
    by_cases two : st.fill = 2
    · rw [two]
      simp only [if_true]
      bv_omega
    · rw [if_neg two, if_neg (by omega)]
      have step : st.fill - 1 = st.fill - 2 + 1 := by omega
      rw [step]
      generalize st.fill - 2 = j
      rw [BitVec.ofNat_add]
      generalize BitVec.ofNat 16 j = x
      bv_omega

end

/-! ### The frame that carries the record (R166) -/

theorem State.sideByte_store (s : State) : s.sideByte.1.store = s.store ∧ s.sideByte.1.synth = s.synth :=
  State.sideByte_keeps (P := fun t => t.store = s.store ∧ t.synth = s.synth) (fun _ _ h => h)
    (fun t h => State.pick_keeps (P := fun t => t.store = s.store ∧ t.synth = s.synth) (fun _ _ h => h) (fun _ _ _ h => h)
      (fun _ _ _ _ h => h) (fun _ _ _ _ h => h) (fun _ _ _ _ h => h) t h) s ⟨rfl, rfl⟩

theorem State.readStore_reads (s : State) : s.readStore.1.store = s.store.readOut.store ∧ s.readStore.1.synth = s.synth ∧
    s.readStore.2 = (s.store.readOut.record, s.store.readOut.prefill) := by
  rw [State.readStore_of_readOut (s := s) rfl]
  exact ⟨State.readWith_store _ _ _, State.readWith_synth _ _ _, rfl⟩

theorem State.frameAnswers_reads (first : Bool) (s : State) : (s.frameAnswers first).1.store = s.store.readOut.store ∧
    (s.frameAnswers first).1.synth = s.synth ∧ (s.frameAnswers first).2.1 = s.store.readOut.record := by
  unfold State.frameAnswers
  cases first
  · obtain ⟨store, synth⟩ := s.readStore.1.sideByte_store
    obtain ⟨read, kept, answer⟩ := s.readStore_reads
    rw [if_neg Bool.false_ne_true]
    exact ⟨store.trans read, synth.trans kept, congrArg Prod.fst answer⟩
  · obtain ⟨store, synth⟩ := s.sideByte_store
    obtain ⟨read, kept, answer⟩ := s.sideByte.1.readStore_reads
    rw [if_pos rfl]
    exact ⟨read.trans (by rw [store]), kept.trans synth, (congrArg Prod.fst answer).trans (by rw [store])⟩

theorem State.complete_keeps (s : State) : s.complete.store = s.store ∧ s.complete.synth = s.synth ∧ s.complete.synthOut = s.synthOut := by
  obtain ⟨units, state, e⟩ := s.complete_shape
  rw [e]
  exact ⟨rfl, rfl, rfl⟩

/-- While the clock is PRESENT a synth forward frame carries the index of the record read, and leaves the store as read. -/
theorem State.synthFrame_sent {s : State} (present : s.synth.clock = .present) (order : SynthOrder) :
    (∃ f, (s.synthFrame order).synthOut = some f ∧ frameField f 160 16 = s.store.readOut.record.index) ∧
      (s.synthFrame order).store = s.store.readOut.store ∧ (s.synthFrame order).synth = s.synth := by
  obtain ⟨store, synth, record⟩ := s.complete.frameAnswers_reads order.transmitterFirst
  obtain ⟨store', synth', -⟩ := s.complete_keeps
  rcases answers : s.complete.frameAnswers order.transmitterFirst with ⟨t, read, prefill, tag, b⟩
  rw [answers] at store synth record
  rw [State.synthFrame_present present answers]
  have field : frameField (synthForwardFrame read prefill (t.pickup.receiver.state == .sync) tag b) 160 16 = s.store.readOut.record.index := by
    rw [← store', ← record]
    exact (synthFrameFieldsInPlace.1 read prefill _ tag b).2.2.1
  have sent : (if order.hold then t.putFrame read prefill tag b else (t.putFrame read prefill tag b).complete).synthOut =
      (t.putFrame read prefill tag b).synthOut := by
    cases order.hold
    · exact (State.complete_keeps _).2.2
    · rfl
  have kept : (if order.hold then t.putFrame read prefill tag b else (t.putFrame read prefill tag b).complete).store = t.store ∧
      (if order.hold then t.putFrame read prefill tag b else (t.putFrame read prefill tag b).complete).synth = t.synth := by
    cases order.hold
    · exact ⟨(State.complete_keeps _).1, (State.complete_keeps _).2.1⟩
    · exact ⟨rfl, rfl⟩
  refine ⟨⟨_, sent, field⟩, kept.1.trans (store.trans (by rw [store'])), kept.2.trans (synth.trans synth')⟩

/-- Settles O39: the two reads in a row, under the invariants of the store. -/
theorem consecutiveSynthIndices : Obligations.ConsecutiveSynthIndices := by
  intro order order' s clocked consecutive flowing
  obtain ⟨sound, halted⟩ := clocked
  have present : s.synth.clock = .present := by
    cases clock : s.synth.clock with
    | present => rfl
    | absent => rw [halted.mpr clock] at flowing; cases flowing
  obtain ⟨⟨f, sent, index⟩, store, synth⟩ := State.synthFrame_sent present order
  obtain ⟨⟨f', sent', index'⟩, -, -⟩ := State.synthFrame_sent (synth ▸ present) order' (s := s.synthFrame order)
  refine ⟨_, _, f, f', rfl, rfl, sent, sent', ?_⟩
  rw [index, index', store]
  exact Store.consecutive_reads flowing sound consecutive.2

end Sys2Proof.Machine
end

section
/-! The arbiter: the order of its sources, the round robin, the messages it builds and what it discards. -/

namespace Sys2Proof.Machine

/-! ### The round robin (R120) -/

/-- How many strings after a pointer a string's turn comes (R120). -/
def turnAfter (pointer n : StringNo) : Nat := (n.num + 5 - pointer.num) % 6

theorem roundRobin_sorted (pointer : StringNo) : (roundRobin pointer).Pairwise fun a b => turnAfter pointer a < turnAfter pointer b := by
  cases pointer <;> decide

theorem mem_roundRobin (pointer n : StringNo) : n ∈ roundRobin pointer := by
  cases pointer <;> cases n <;> decide

/-- In a list sorted by `turn`, the first element with a property is the one of least turn. -/
theorem find?_eq_some_of_least {α : Type} {turn : α → Nat} {p : α → Bool} {l : List α} {a : α} (sorted : l.Pairwise fun a b => turn a < turn b)
    (mem : a ∈ l) (holds : p a = true) (least : ∀ b, p b = true → turn a ≤ turn b) : l.find? p = some a := by
  induction l with
  | nil => cases mem
  | cons b l ih =>
    obtain ⟨before, rest⟩ := List.pairwise_cons.mp sorted
    rcases List.mem_cons.mp mem with rfl | inside
    · exact List.find?_cons_of_pos holds
    · have skipped : ¬ p b = true := fun found => by
        have := before a inside
        have := least b found
        omega
      rw [List.find?_cons_of_neg skipped]
      exact ih rest inside

theorem roundRobin_find?_eq_some {pointer n : StringNo} {p : StringNo → Bool} (holds : p n = true)
    (least : ∀ n', p n' = true → turnAfter pointer n ≤ turnAfter pointer n') : (roundRobin pointer).find? p = some n :=
  find?_eq_some_of_least (roundRobin_sorted pointer) (mem_roundRobin pointer n) holds least

theorem roundRobin_find?_eq_none {pointer : StringNo} {p : StringNo → Bool} (fails : ∀ n, ¬ p n = true) : (roundRobin pointer).find? p = none :=
  List.find?_eq_none.mpr fun n _ => fails n

theorem State.queueEligible_iff (s : State) (n : StringNo) :
    s.queueEligible n = true ↔ (s.record n).outputMode ≠ .frozen ∧ (s.unit n).queue ≠ [] := by
  simp [State.queueEligible]

theorem State.slotEligible_iff (s : State) (n : StringNo) : s.slotEligible n = true ↔
    (s.record n).outputMode = .active ∧ (s.unit n).queue = [] ∧ ((s.unit n).glide ≠ none ∨ (s.unit n).press ≠ none) := by
  simp [State.slotEligible, and_assoc, Option.isSome_iff_ne_none]

/-! ### One look, and the pick (R120 to R122) -/

section
variable {s : State}

theorem State.pick_of_took {t : State} {m : InFlight} (look : s.pickOnce = .took t m) : s.pick = (t, some m) := by
  simp only [State.pick, pickWith, look]

theorem State.pick_of_nothing (look : s.pickOnce = .nothing) : s.pick = (s, none) := by
  simp only [State.pick, pickWith, look]

/-- A look that discards one record or value leaves the arbiter to pick again. -/
theorem State.pick_of_discarded {t : State} (look : s.pickOnce = .discarded t) (one : t.heldRecords + 1 = s.heldRecords) : s.pick = t.pick := by
  rw [State.pick, pickWith, look, ← one]
  rfl

theorem State.heldRecords_setUnit (s : State) (n : StringNo) (u : StringUnit) :
    (s.setUnit n u).heldRecords + (s.unit n).held = s.heldRecords + u.held := by
  cases n <;> simp [State.heldRecords, StringNo.all, State.unit, State.setUnit, Six.get, Six.set] <;> omega

theorem State.pickOnce_notice {notice : Notice} {rest : List Notice} (notices : s.tx.notices = notice :: rest) :
    s.pickOnce = .took { s with tx := { s.tx with notices := rest } } (noticeInFlight s.tables.device notice) := by
  simp only [State.pickOnce, notices]

section
variable (quiet : s.tx.notices = [])
include quiet

theorem State.pickOnce_queue {n : StringNo} (found : (roundRobin s.tx.queuePointer).find? s.queueEligible = some n) :
    s.pickOnce = .ofTake (s.takeQueue n) := by
  simp only [State.pickOnce, quiet, found]

variable (unqueued : (roundRobin s.tx.queuePointer).find? s.queueEligible = none)
include unqueued

theorem State.pickOnce_answer {m : List Byte} {rest : List (List Byte)} (answers : s.answers = m :: rest) :
    s.pickOnce = .took { s with answers := rest } (.start .other m) := by
  simp only [State.pickOnce, quiet, unqueued, answers]

theorem State.pickOnce_relay {m : List Byte} {rest : List (List Byte)} (answers : s.answers = []) (relay : s.relayDown = m :: rest) :
    s.pickOnce = .took { s with relayDown := rest } (.start .other m) := by
  simp only [State.pickOnce, quiet, unqueued, answers, relay]

variable (answers : s.answers = []) (relay : s.relayDown = [])
include answers relay

theorem State.pickOnce_slot {n : StringNo} (found : (roundRobin s.tx.slotPointer).find? s.slotEligible = some n) :
    s.pickOnce = .ofTake (s.takeSlot n) := by
  simp only [State.pickOnce, quiet, unqueued, answers, relay, found]

theorem State.pickOnce_nothing (unslotted : (roundRobin s.tx.slotPointer).find? s.slotEligible = none) : s.pickOnce = .nothing := by
  simp only [State.pickOnce, quiet, unqueued, answers, relay, unslotted]

end

/-! ### Takes (R121, R122) -/

theorem State.takeQueue_eq {n : StringNo} {record : NoteRecord} {rest : List NoteRecord} (queue : (s.unit n).queue = record :: rest) :
    s.takeQueue n = ({ s with tx := { s.tx with queuePointer := n } }.setUnit n { s.unit n with queue := rest },
      noteMessage s.tables.device n (s.unit n).group record) := by
  simp only [State.takeQueue, queue]
  rfl

theorem State.takeSlot_glide {n : StringNo} {v : Glide} (glide : (s.unit n).glide = some v) :
    s.takeSlot n = ({ s with tx := { s.tx with slotPointer := n } }.setUnit n { s.unit n with glide := none },
      (s.unit n).group.map fun _ => .start .other (message s.tables.device kindGlide (glideBody n v))) := by
  have same : ({ s with tx := { s.tx with slotPointer := n } } : State).unit n = s.unit n := rfl
  simp only [State.takeSlot, same, glide]
  rfl

theorem State.takeSlot_press {n : StringNo} {v : Press} (glide : (s.unit n).glide = none) (press : (s.unit n).press = some v) :
    s.takeSlot n = ({ s with tx := { s.tx with slotPointer := n } }.setUnit n { s.unit n with press := none },
      (s.unit n).group.map fun _ => .start .other (message s.tables.device kindPress (pressBody n v))) := by
  unfold State.takeSlot
  dsimp only
  split
  next v' taken => cases glide.symm.trans taken
  next v' _ taken =>
    obtain rfl : v = v' := Option.some.inj (press.symm.trans taken)
    rfl
  next taken => cases press.symm.trans taken

/-- A unit that holds one record or value fewer takes one from what a pick could discard. -/
theorem State.heldRecords_fewer {t : State} {n : StringNo} {u : StringUnit} (units : t.units = s.units) (fewer : (s.unit n).held = u.held + 1) :
    (t.setUnit n u).heldRecords + 1 = s.heldRecords := by
  have balance := t.heldRecords_setUnit n u
  have unit : t.unit n = s.unit n := by rw [State.unit, State.unit, units]
  have held : t.heldRecords = s.heldRecords := by
    unfold State.heldRecords State.unit
    rw [units]
  rw [unit, held] at balance
  omega

theorem StringUnit.held_queue {u : StringUnit} {record : NoteRecord} {rest : List NoteRecord} (queue : u.queue = record :: rest) :
    u.held = ({ u with queue := rest } : StringUnit).held + 1 := by
  simp only [StringUnit.held, queue, List.length_cons]
  omega

theorem StringUnit.held_glide {u : StringUnit} {v : Glide} (glide : u.glide = some v) :
    u.held = ({ u with glide := none } : StringUnit).held + 1 := by
  simp only [StringUnit.held, glide, Option.isSome_some, Option.isSome_none, if_true, Bool.false_eq_true, if_false]
  omega

theorem StringUnit.held_press {u : StringUnit} {v : Press} (press : u.press = some v) :
    u.held = ({ u with press := none } : StringUnit).held + 1 := by
  simp only [StringUnit.held, press, Option.isSome_some, Option.isSome_none, if_true, Bool.false_eq_true, if_false]

end

/-- Settles O49: the sources in their order, the string whose turn it is, and the record or value taken by whether a group is open. -/
theorem arbiterOrder : Obligations.ArbiterOrder := by
  intro s d start queued slotted turn next
  have fair : ∀ (pointer n : StringNo) (eligible : StringNo → Prop) (p : StringNo → Bool), (∀ n, p n = true ↔ eligible n) →
      next pointer eligible n → (roundRobin pointer).find? p = some n := fun pointer n eligible p same ⟨holds, least⟩ =>
    roundRobin_find?_eq_some ((same n).mpr holds) fun n' h => least n' ((same n').mp h)
  have idle : ∀ (pointer : StringNo) (eligible : StringNo → Prop) (p : StringNo → Bool), (∀ n, p n = true ↔ eligible n) →
      (∀ n, ¬ eligible n) → (roundRobin pointer).find? p = none := fun pointer eligible p same fails =>
    roundRobin_find?_eq_none fun n h => fails n ((same n).mp h)
  refine ⟨fun notice rest notices => State.pick_of_took (State.pickOnce_notice notices), fun quiet => ⟨fun n record rest first queue => ?_,
    fun unqueued => ⟨fun m rest answers => ?_, fun m rest answers relay => ?_, fun answers relay => ⟨fun unslotted => ?_, fun n first => ?_⟩⟩⟩⟩
  · have look := State.pickOnce_queue quiet (fair _ n queued s.queueEligible s.queueEligible_iff first)
    rw [State.takeQueue_eq queue] at look
    refine ⟨?_, ?_, ?_, fun unstruck closed => ?_⟩
    · rintro c note v st p m rfl
      exact State.pick_of_took look
    · rintro c note st k m g rfl group
      rw [group] at look
      exact State.pick_of_took look
    · rintro st cause g rfl group
      rw [group] at look
      exact State.pick_of_took look
    · refine State.pick_of_discarded (look.trans ?_) (State.heldRecords_fewer (by rfl) (StringUnit.held_queue queue))
      rw [closed]
      cases record with
      | strike c note v st p m => exact absurd rfl (unstruck c note v st p m)
      | shift => rfl
      | lift => rfl
  · exact State.pick_of_took (State.pickOnce_answer quiet (idle _ queued _ s.queueEligible_iff unqueued) answers)
  · exact State.pick_of_took (State.pickOnce_relay quiet (idle _ queued _ s.queueEligible_iff unqueued) answers relay)
  · exact State.pick_of_nothing (State.pickOnce_nothing quiet (idle _ queued _ s.queueEligible_iff unqueued) answers relay
      (idle _ slotted _ s.slotEligible_iff unslotted))
  · have look := State.pickOnce_slot quiet (idle _ queued _ s.queueEligible_iff unqueued) answers relay
      (fair _ n slotted s.slotEligible s.slotEligible_iff first)
    refine ⟨fun v glide => ?_, fun v unset press => ?_⟩
    · rw [State.takeSlot_glide glide] at look
      refine ⟨fun g group => ?_, fun closed => ?_⟩
      · rw [group] at look
        exact State.pick_of_took look
      · rw [closed] at look
        exact State.pick_of_discarded look (State.heldRecords_fewer (by rfl) (StringUnit.held_glide glide))
    · rw [State.takeSlot_press unset press] at look
      refine ⟨fun g group => ?_, fun closed => ?_⟩
      · rw [group] at look
        exact State.pick_of_took look
      · rw [closed] at look
        exact State.pick_of_discarded look (State.heldRecords_fewer (by rfl) (StringUnit.held_press press))

end Sys2Proof.Machine
end

section
/-! The table records as bytes: where each field stands, and that a sound record read back from its bytes is itself (R179 to R181, R195). -/

namespace Sys2Proof.Machine

/-! ### Fields of a run of bytes -/

/-- The number whose bytes, most significant first, are `width` bytes of a run from `first` on (R191). -/
def numberAt (bytes : List Byte) (first width : Nat) : Nat := ((bytes.drop first).take width).foldl (fun v b => v * 256 + b.toNat) 0

section
variable {bytes : List Byte} {i : Nat}

theorem drop_eq_byte_cons (inside : i < bytes.length) : bytes.drop i = bytes.getD i 0 :: bytes.drop (i + 1) := by
  rw [List.drop_eq_getElem_cons inside, List.getD_eq_getElem _ _ inside]

section
variable {length v : Nat} (long : bytes.length = length)
include long

theorem numberAt_one (inside : i < length) (value : byteAt bytes i = v) : numberAt bytes i 1 = v := by
  rw [numberAt, drop_eq_byte_cons (by omega), ← value]
  simp only [List.take_succ_cons, List.take_zero, List.foldl_cons, List.foldl_nil, byteAt]
  omega

theorem numberAt_two (inside : i + 1 < length) (value : field2 bytes i = v) : numberAt bytes i 2 = v := by
  rw [numberAt, drop_eq_byte_cons (by omega), drop_eq_byte_cons (by omega), ← value]
  simp only [List.take_succ_cons, List.take_zero, List.foldl_cons, List.foldl_nil, field2, byteAt]
  omega

theorem numberAt_three (inside : i + 2 < length) (value : field3 bytes i = v) : numberAt bytes i 3 = v := by
  rw [numberAt, drop_eq_byte_cons (by omega), drop_eq_byte_cons (by omega), drop_eq_byte_cons (i := i + 2) (by omega), ← value]
  simp only [List.take_succ_cons, List.take_zero, List.foldl_cons, List.foldl_nil, field3, byteAt]
  omega

end
end

section
variable {v : Nat}

theorem bytes2_value (h : v < 65536) : (byte (v / 256)).toNat * 256 + (byte v).toNat = v := by
  simp only [byte, BitVec.toNat_ofNat]
  omega

theorem bytes3_value (h : v < 16777216) :
    (byte (v / 65536)).toNat * 65536 + (byte (v / 256)).toNat * 256 + (byte v).toNat = v := by
  simp only [byte, BitVec.toNat_ofNat]
  omega

theorem clampNat_of_mem {lo hi : Nat} (above : lo ≤ v) (below : v ≤ hi) : clampNat lo hi v = v := by
  unfold clampNat
  omega

end

theorem clampInt_of_mem {lo hi v : Int} (above : lo ≤ v) (below : v ≤ hi) : clampInt lo hi v = v := by
  unfold clampInt
  omega

theorem flag_byte (b : Bool) : (byte (flag b)).toNat = flag b := by
  cases b <;> rfl

theorem flagField_flag (b : Bool) : flagField (flag b) = b := by
  cases b <;> rfl

/-- The number of a zone head or a zone next (R195). -/
def linkNumber (next : Option (Fin 32)) : Nat := (zoneLinkByte next).toNat

theorem linkNumber_some (i : Fin 32) : linkNumber (some i) = i.val := byte_toNat_of_lt (by omega)

theorem zoneLink_linkNumber (next : Option (Fin 32)) : zoneLink (linkNumber next) = next := by
  cases next with
  | none => rfl
  | some i => rw [linkNumber_some, zoneLink, dif_pos i.isLt]

theorem signed2_value {v : Int} (low : -32768 ≤ v) (high : v ≤ 32767) :
    ((BitVec.ofInt 16 v).extractLsb' 8 8 ++ (BitVec.ofInt 16 v).extractLsb' 0 8).toInt = v := by
  have whole : ∀ x : BitVec 16, x.extractLsb' 8 8 ++ x.extractLsb' 0 8 = x := fun x => by
    rw [BitVec.extractLsb'_append_extractLsb'_eq_extractLsb' (by rfl), BitVec.extractLsb'_eq_self]
  rw [whole, BitVec.toInt_ofInt, Int.bmod_def]
  omega

theorem signed1_value {v : Int} (low : -128 ≤ v) (high : v ≤ 127) : (BitVec.ofInt 8 v).toInt = v := by
  rw [BitVec.toInt_ofInt, Int.bmod_def]
  omega

/-! ### The device record -/

section
variable {d : DeviceRecord}

theorem DeviceRecord.notice_bits (d : DeviceRecord) :
    (byte (flag d.faultNotices + 2 * flag d.recoverNotices + 4 * flag d.slipNotices + 8 * flag d.linkNotices)).toNat =
        flag d.faultNotices + 2 * flag d.recoverNotices + 4 * flag d.slipNotices + 8 * flag d.linkNotices := by
  refine byte_toNat_of_lt ?_
  have small : ∀ b, flag b ≤ 1 := fun b => by cases b <;> decide
  have := small d.faultNotices
  have := small d.recoverNotices
  have := small d.slipNotices
  have := small d.linkNotices
  omega

/-- Bits 0 to 3 of the notice byte are the four enables (R195). -/
theorem flags_getLsbD (a b c e : Bool) : let x := byte (flag a + 2 * flag b + 4 * flag c + 8 * flag e)
    x.getLsbD 0 = a ∧ x.getLsbD 1 = b ∧ x.getLsbD 2 = c ∧ x.getLsbD 3 = e := by
  revert a b c e
  decide

theorem readDevice_bytes (sound : d.Sound) : readDevice d.bytes = d := by
  obtain ⟨address, address', fA, fA', fs, fs'⟩ := sound
  obtain ⟨fault, recover, slip, link⟩ := flags_getLsbD d.faultNotices d.recoverNotices d.slipNotices d.linkNotices
  have addressAt : byteAt d.bytes 0 = d.address := byte_toNat_of_lt (by omega)
  have fAAt : field2 d.bytes 1 = d.fA := bytes2_value (by omega)
  have fsAt : field3 d.bytes 3 = d.fs := bytes3_value (by omega)
  have noticesAt : d.bytes.getD 6 0 =
    byte (flag d.faultNotices + 2 * flag d.recoverNotices + 4 * flag d.slipNotices + 8 * flag d.linkNotices) := rfl
  rw [readDevice, addressAt, fAAt, fsAt, noticesAt, fault, recover, slip, link, clampNat_of_mem address address', clampNat_of_mem fA fA',
    clampNat_of_mem fs fs']

end

/-! ### The string record -/

/-- The bytes of a string record hold its fields, each at its place (R195). -/
structure StringRecord.StandsIn (r : StringRecord) (bytes : List Byte) : Prop where
  enable : byteAt bytes 0 = flag r.enable
  outputMode : byteAt bytes 1 = r.outputMode.code
  sampleMode : byteAt bytes 2 = r.sampleMode.code
  attach : field3 bytes 3 = r.attach
  releaseThreshold : field3 bytes 6 = r.releaseThreshold
  releaseHold : field2 bytes 9 = r.releaseHold
  decayShift : byteAt bytes 11 = r.decayShift
  velocitySpan : field3 bytes 12 = r.velocitySpan
  lowPassShift : byteAt bytes 15 = r.lowPassShift
  hysteresisShift : byteAt bytes 16 = r.hysteresisShift
  tolerance : byteAt bytes 17 = r.tolerance
  loopShift : byteAt bytes 18 = r.loopShift
  confirm : byteAt bytes 19 = r.confirm
  strikeDeadline : field2 bytes 20 = r.strikeDeadline
  zoneHead : byteAt bytes 22 = linkNumber r.zoneHead
  noteHysteresis : byteAt bytes 23 = r.noteHysteresis
  reattackRatio : byteAt bytes 24 = r.reattackRatio
  reattackGuard : field2 bytes 25 = r.reattackGuard
  glideStep : byteAt bytes 27 = r.glideStep
  glideInterval : field2 bytes 28 = r.glideInterval
  pressInterval : field2 bytes 30 = r.pressInterval
  clipLevel : field3 bytes 32 = r.clipLevel
  clipCount : byteAt bytes 35 = r.clipCount
  stuckCount : byteAt bytes 36 = r.stuckCount
  converterFlagUse : byteAt bytes 37 = flag r.converterFlagUse
  faultLatch : byteAt bytes 38 = flag r.faultLatch
  faultWait : byteAt bytes 39 = r.faultWait
  faultTest : byteAt bytes 40 = r.faultTest
  dampTime : field2 bytes 41 = r.dampTime

section
variable {r : StringRecord}

theorem OutputMode.code_byte (mode : OutputMode) : (byte mode.code).toNat = mode.code := by
  cases mode <;> rfl

theorem SampleMode.code_byte (mode : SampleMode) : (byte mode.code).toNat = mode.code := by
  cases mode <;> rfl

theorem byte_toNat_of_le {v most : Nat} (h : v ≤ most) (small : most < 256) : (byte v).toNat = v :=
  byte_toNat_of_lt (lt_of_le_of_lt h small)

theorem bytes2_value_of_le {v most : Nat} (h : v ≤ most) (small : most < 65536) : (byte (v / 256)).toNat * 256 + (byte v).toNat = v :=
  bytes2_value (lt_of_le_of_lt h small)

theorem bytes3_value_of_le {v : Nat} (h : v ≤ levelMax) :
    (byte (v / 65536)).toNat * 65536 + (byte (v / 256)).toNat * 256 + (byte v).toNat = v :=
  bytes3_value (lt_of_le_of_lt h (by decide))

theorem StringRecord.bytes_eq (r : StringRecord) : r.bytes =
    [byte (flag r.enable), byte r.outputMode.code, byte r.sampleMode.code, byte (r.attach / 65536), byte (r.attach / 256), byte r.attach,
    byte (r.releaseThreshold / 65536), byte (r.releaseThreshold / 256), byte r.releaseThreshold, byte (r.releaseHold / 256), byte r.releaseHold,
    byte r.decayShift, byte (r.velocitySpan / 65536), byte (r.velocitySpan / 256), byte r.velocitySpan,
    byte r.lowPassShift, byte r.hysteresisShift, byte r.tolerance, byte r.loopShift, byte r.confirm, byte (r.strikeDeadline / 256),
    byte r.strikeDeadline, zoneLinkByte r.zoneHead, byte r.noteHysteresis, byte r.reattackRatio, byte (r.reattackGuard / 256),
    byte r.reattackGuard, byte r.glideStep, byte (r.glideInterval / 256), byte r.glideInterval, byte (r.pressInterval / 256),
    byte r.pressInterval, byte (r.clipLevel / 65536), byte (r.clipLevel / 256), byte r.clipLevel, byte r.clipCount, byte r.stuckCount,
    byte (flag r.converterFlagUse), byte (flag r.faultLatch), byte r.faultWait, byte r.faultTest, byte (r.dampTime / 256), byte r.dampTime] := by
  simp only [StringRecord.bytes, bytes2, bytes3, List.cons_append, List.nil_append]

theorem StringRecord.bytes_standsIn (sound : r.Sound) : r.StandsIn r.bytes := by
  obtain ⟨-, attach, span, -, release, -, hold, -, decay, lowPass, -, hysteresis, -, tolerance, loop, -, confirm, deadline, band, -, ratio,
    rearm, -, step, -, glide, press, -, clip, -, clips, -, stuck, -, wait, -, test, damp⟩ := sound
  have attached : r.attach ≤ levelMax := (Nat.le_of_lt attach).trans span
  rw [StringRecord.bytes_eq]
  exact
    { enable := flag_byte _, outputMode := OutputMode.code_byte _, sampleMode := SampleMode.code_byte _
      attach := bytes3_value_of_le attached, releaseThreshold := bytes3_value_of_le ((Nat.le_of_lt release).trans attached)
      releaseHold := bytes2_value_of_le hold (by decide), decayShift := byte_toNat_of_le decay (by decide)
      velocitySpan := bytes3_value_of_le span, lowPassShift := byte_toNat_of_le lowPass (by decide)
      hysteresisShift := byte_toNat_of_le hysteresis (by decide), tolerance := byte_toNat_of_le tolerance (by decide)
      loopShift := byte_toNat_of_le loop (by decide), confirm := byte_toNat_of_le confirm (by decide)
      strikeDeadline := bytes2_value_of_le deadline (by decide), zoneHead := rfl, noteHysteresis := byte_toNat_of_le band (by decide)
      reattackRatio := byte_toNat_of_le ratio (by decide), reattackGuard := bytes2_value_of_le rearm (by decide)
      glideStep := byte_toNat_of_le step (by decide), glideInterval := bytes2_value_of_le glide (by decide)
      pressInterval := bytes2_value_of_le press (by decide), clipLevel := bytes3_value_of_le clip
      clipCount := byte_toNat_of_le clips (by decide), stuckCount := byte_toNat_of_le stuck (by decide)
      converterFlagUse := flag_byte _, faultLatch := flag_byte _, faultWait := byte_toNat_of_le wait (by decide)
      faultTest := byte_toNat_of_le test (by decide), dampTime := bytes2_value_of_le damp (by decide) }

/-- Neither cross-field fix changes a sound record (R181). -/
theorem fixes_of_sound {a span release : Nat} (above : a < span) (below : release < a) : fixSpan a span = (a, span) ∧ fixRelease a release = release :=
  ⟨if_neg (by omega), if_neg (by omega)⟩

theorem readString_standsIn {bytes : List Byte} (sound : r.Sound) (stands : r.StandsIn bytes) :
    readString r.outputMode r.sampleMode bytes = r := by
  obtain ⟨attach, attach', span, release, release', hold, hold', decay, decay', lowPass, hysteresis, hysteresis', tolerance, tolerance',
    loop, confirm, confirm', deadline, band, ratio, ratio', guarded, step, step', glide, glide', press, clip, clip', clips, clips', stuck,
    stuck', wait, wait', test, test', damp⟩ := sound
  obtain ⟨unspanned, unreleased⟩ := fixes_of_sound attach' release'
  rw [readString, stands.enable, stands.attach, stands.releaseThreshold, stands.releaseHold, stands.decayShift, stands.velocitySpan,
    stands.lowPassShift, stands.hysteresisShift, stands.tolerance, stands.loopShift, stands.confirm, stands.strikeDeadline, stands.zoneHead,
    stands.noteHysteresis, stands.reattackRatio, stands.reattackGuard, stands.glideStep, stands.glideInterval, stands.pressInterval,
    stands.clipLevel, stands.clipCount, stands.stuckCount, stands.converterFlagUse, stands.faultLatch, stands.faultWait, stands.faultTest,
    stands.dampTime, flagField_flag, flagField_flag, flagField_flag, zoneLink_linkNumber,
    clampNat_of_mem attach (by omega), clampNat_of_mem (v := r.velocitySpan) (by omega) span, unspanned,
    clampNat_of_mem release (by omega), unreleased, clampNat_of_mem hold hold',
    clampNat_of_mem decay decay', clampNat_of_mem (Nat.zero_le _) lowPass, clampNat_of_mem hysteresis hysteresis',
    clampNat_of_mem tolerance tolerance', clampNat_of_mem (Nat.zero_le _) loop, clampNat_of_mem confirm confirm',
    clampNat_of_mem (Nat.zero_le _) deadline, clampNat_of_mem (Nat.zero_le _) band, clampNat_of_mem ratio ratio',
    clampNat_of_mem (Nat.zero_le _) guarded, clampNat_of_mem step step', clampNat_of_mem glide glide', clampNat_of_mem (Nat.zero_le _) press,
    clampNat_of_mem clip clip', clampNat_of_mem clips clips', clampNat_of_mem stuck stuck', clampNat_of_mem wait wait',
    clampNat_of_mem test test', clampNat_of_mem (Nat.zero_le _) damp]

theorem readString_bytes (sound : r.Sound) : readString r.outputMode r.sampleMode r.bytes = r :=
  readString_standsIn sound (StringRecord.bytes_standsIn sound)

theorem OutputMode.ofCode_code (mode : OutputMode) : OutputMode.ofCode mode.code = some mode := by
  cases mode <;> rfl

theorem SampleMode.ofCode_code (mode : SampleMode) : SampleMode.ofCode mode.code = some mode := by
  cases mode <;> rfl

theorem ZoneMode.ofCode_code (mode : ZoneMode) : ZoneMode.ofCode mode.code = some mode := by
  cases mode <;> rfl

theorem ZoneMode.code_byte (mode : ZoneMode) : (byte mode.code).toNat = mode.code := by
  cases mode <;> rfl

theorem ofCode_standsIn {bytes : List Byte} (stands : r.StandsIn bytes) :
    OutputMode.ofCode (byteAt bytes 1) = some r.outputMode ∧ SampleMode.ofCode (byteAt bytes 2) = some r.sampleMode := by
  rw [stands.outputMode, stands.sampleMode]
  exact ⟨OutputMode.ofCode_code _, SampleMode.ofCode_code _⟩

end

/-! ### Rows, zones and curves -/

theorem signedAt2_rowBytes {n : StringNo} {row : CrosstalkRow} (sound : RowSound n row) (t : StringNo) :
    signedAt2 (rowBytes row) (2 * (t.num - 1)) = row.get t := by
  obtain ⟨low, high⟩ := sound.2 t
  have wide : -32768 ≤ row.get t ∧ row.get t ≤ 32767 := ⟨by omega, by omega⟩
  cases t <;> exact signed2_value wide.1 wide.2

theorem readRow_rowBytes {n : StringNo} {row : CrosstalkRow} (sound : RowSound n row) : readRow n (rowBytes row) = row := by
  refine Six.ext_get fun t => ?_
  rw [readRow, Six.get_ofFn, readCoefficient]
  split
  next own => exact own ▸ sound.1.symm
  next => rw [signedAt2_rowBytes sound, clampInt_of_mem (sound.2 t).1 (sound.2 t).2]

theorem Fin.ofNat_clampNat (i : Fin 4) : Fin.ofNat 4 (clampNat 0 3 i.val) = i := by
  rw [clampNat_of_mem (Nat.zero_le _) (by omega)]
  exact Fin.ext (Nat.mod_eq_of_lt i.isLt)

theorem readZone_bytes {z : ZoneRecord} (sound : z.Sound) : readZone z.mode z.bytes = z := by
  obtain ⟨low, high, channel, channel', transpose, transpose', bend, bend'⟩ := sound
  have lowAt : byteAt z.bytes 0 = z.low := byte_toNat_of_lt (by omega)
  have highAt : byteAt z.bytes 1 = z.high := byte_toNat_of_lt (by omega)
  have channelAt : byteAt z.bytes 2 = z.channel := byte_toNat_of_lt (by omega)
  have transposeAt : signedAt z.bytes 3 = z.transpose := signed1_value (by omega) (by omega)
  have bendAt : byteAt z.bytes 5 = z.bendRange := byte_toNat_of_lt (by omega)
  have curveAt : byteAt z.bytes 6 = z.curve.val := byte_toNat_of_lt (by omega)
  have nextAt : byteAt z.bytes 7 = linkNumber z.next := rfl
  rw [readZone, lowAt, highAt, channelAt, transposeAt, bendAt, curveAt, nextAt, zoneLink_linkNumber, Fin.ofNat_clampNat,
    clampNat_of_mem (Nat.zero_le _) low, clampNat_of_mem (Nat.zero_le _) high, clampNat_of_mem channel channel',
    clampInt_of_mem transpose transpose', clampNat_of_mem bend bend']

theorem byteAt_curveBytes {c : Curve} (sound : CurveSound c) (i : Fin 16) : byteAt (curveBytes c) i.val = c.get i := by
  have inside : i.val < (curveBytes c).length := by simp [curveBytes]
  have bound := (sound i).2
  rw [byteAt, List.getD_eq_getElem _ _ inside]
  simp only [curveBytes, List.getElem_map, Vector.getElem_toList]
  exact byte_toNat_of_lt (lt_of_le_of_lt bound (by decide))

theorem readCurve_curveBytes {c : Curve} (sound : CurveSound c) : readCurve (curveBytes c) = c := by
  refine Vector.ext fun i h => ?_
  have read := readCurve_get (curveBytes c) ⟨i, h⟩
  rw [byteAt_curveBytes sound, clampNat_of_mem (sound _).1 (sound _).2] at read
  exact read

/-! ### Numbers at their places -/

theorem linkNumber_eq (next : Option (Fin 32)) : linkNumber next = next.elim 255 Fin.val := by
  cases next with
  | none => rfl
  | some i => exact linkNumber_some i

theorem signed2_number (v : Int) :
    ((((BitVec.ofInt 16 v).extractLsb' 8 8).toNat * 256 + ((BitVec.ofInt 16 v).extractLsb' 0 8).toNat : Nat) : Int) = v % 65536 := by
  simp only [BitVec.extractLsb'_toNat, BitVec.toNat_ofInt, Nat.shiftRight_eq_div_pow]
  omega

theorem signed1_number (v : Int) : ((BitVec.ofInt 8 v).toNat : Int) = v % 256 := by
  rw [BitVec.toNat_ofInt]
  omega

theorem rowBytes_number (row : CrosstalkRow) (t : StringNo) :
    (field2 (rowBytes row) (2 * (t.num - 1)) : Int) = row.get t % 65536 := by
  cases t <;> exact signed2_number _

/-- Settles O13: each field is read from its place in the record's bytes, and a value in its range is left as it is by the clamps and fixes. -/
theorem storedRecordsRoundTrip : Obligations.StoredRecordsRoundTrip := by
  unfold Obligations.StoredRecordsRoundTrip
  intro number bit link
  have bitIs : bit = flag := rfl
  have numberIs : number = numberAt := rfl
  have linkIs : link = linkNumber := funext fun next => by
    rw [linkNumber_eq]
    cases next <;> rfl
  clear_value bit number link
  subst bitIs numberIs linkIs
  refine ⟨fun d sound => ?_, fun r sound => ?_, fun n row sound => ?_, fun z sound => ?_, fun c sound => ?_⟩
  · obtain ⟨-, address, -, fA, -, fs⟩ := id sound
    have long : d.bytes.length = 7 := rfl
    exact ⟨readDevice_bytes sound, long, numberAt_one long (by decide) (byte_toNat_of_le address (by decide)),
      numberAt_two long (by decide) (bytes2_value_of_le fA (by decide)),
      numberAt_three long (by decide) (bytes3_value_of_le (fs.trans (by decide))), numberAt_one long (by decide) d.notice_bits⟩
  · have stands := StringRecord.bytes_standsIn sound
    have long : r.bytes.length = 43 := by rw [StringRecord.bytes_eq]; rfl
    obtain ⟨output, sample⟩ := ofCode_standsIn stands
    have one {i v} (inside : i < 43) := numberAt_one (v := v) long inside
    have two {i v} (inside : i + 1 < 43) := numberAt_two (v := v) long inside
    have three {i v} (inside : i + 2 < 43) := numberAt_three (v := v) long inside
    exact ⟨readString_bytes sound, long, output, sample, one (by decide) stands.enable, one (by decide) stands.outputMode,
      one (by decide) stands.sampleMode, three (by decide) stands.attach, three (by decide) stands.releaseThreshold,
      two (by decide) stands.releaseHold, one (by decide) stands.decayShift, three (by decide) stands.velocitySpan,
      one (by decide) stands.lowPassShift, one (by decide) stands.hysteresisShift, one (by decide) stands.tolerance,
      one (by decide) stands.loopShift, one (by decide) stands.confirm, two (by decide) stands.strikeDeadline,
      one (by decide) stands.zoneHead, one (by decide) stands.noteHysteresis, one (by decide) stands.reattackRatio,
      two (by decide) stands.reattackGuard, one (by decide) stands.glideStep, two (by decide) stands.glideInterval,
      two (by decide) stands.pressInterval, three (by decide) stands.clipLevel, one (by decide) stands.clipCount,
      one (by decide) stands.stuckCount, one (by decide) stands.converterFlagUse, one (by decide) stands.faultLatch,
      one (by decide) stands.faultWait, one (by decide) stands.faultTest, two (by decide) stands.dampTime⟩
  · have long : (rowBytes row).length = 12 := rfl
    refine ⟨readRow_rowBytes sound, long, fun t => ?_⟩
    rw [numberAt_two long (by cases t <;> decide) rfl]
    exact rowBytes_number row t
  · obtain ⟨low, high, -, channel, -, -, -, bend⟩ := id sound
    have long : z.bytes.length = 8 := rfl
    have mode : byteAt z.bytes 4 = z.mode.code := z.mode.code_byte
    have one {i v} (inside : i < 8) := numberAt_one (v := v) long inside
    refine ⟨readZone_bytes sound, long, (congrArg ZoneMode.ofCode mode).trans (ZoneMode.ofCode_code _),
      one (by decide) (byte_toNat_of_le low (by decide)), one (by decide) (byte_toNat_of_le high (by decide)),
      one (by decide) (byte_toNat_of_le channel (by decide)), ?_, one (by decide) mode, one (by decide) (byte_toNat_of_le bend (by decide)),
      one (by decide) (byte_toNat_of_lt (z.curve.isLt.trans (by decide))), one (by decide) rfl⟩
    rw [one (by decide) rfl]
    exact signed1_number z.transpose
  · have long : (curveBytes c).length = 16 := by simp [curveBytes]
    exact ⟨readCurve_curveBytes sound, long, fun i => numberAt_one long i.isLt (byteAt_curveBytes sound i)⟩

end Sys2Proof.Machine
end

section
/-! The side-channel CRC as the register of R171, what a changed byte does to it, and the messages' bodies (R123, R170, R191, R192). -/

namespace Sys2Proof.Machine

/-! ### The register is linear (R171) -/

/-- What a bit that leaves the register combines with the rest: the generator or nothing (R171). -/
def crcFeedback (leaves : Bool) : BitVec 16 := if leaves = true then crcGenerator else 0#16

theorem crcBit_eq (register : BitVec 16) (bit : Bool) : crcBit register bit = (register <<< 1) ^^^ crcFeedback (register.msb ^^ bit) := by
  unfold crcBit crcFeedback
  cases register.msb <;> cases bit <;> simp

theorem crcFeedback_xor (x y : Bool) : crcFeedback (x ^^ y) = crcFeedback x ^^^ crcFeedback y := by
  cases x <;> cases y <;> rfl

theorem crcBit_xor (r r' : BitVec 16) (x x' : Bool) : crcBit (r ^^^ r') (x ^^ x') = crcBit r x ^^^ crcBit r' x' := by
  have leaves : ((r ^^^ r').msb ^^ (x ^^ x')) = ((r.msb ^^ x) ^^ (r'.msb ^^ x')) := by
    rw [BitVec.msb_xor, Bool.xor_assoc, Bool.xor_left_comm r'.msb, ← Bool.xor_assoc]
  rw [crcBit_eq, crcBit_eq, crcBit_eq, leaves, crcFeedback_xor, BitVec.shiftLeft_xor_distrib]
  ac_rfl

theorem crcByte_xor (r r' : BitVec 16) (a a' : Byte) : crcByte (r ^^^ r') (a ^^^ a') = crcByte r a ^^^ crcByte r' a' := by
  simp only [crcByte, byteBits, List.foldl_cons, List.foldl_nil, BitVec.getLsbD_xor, crcBit_xor]

/-! ### No two registers, and no two bytes, go on alike -/

/-- The generator's lowest bit shows whether a bit left the register, so that no register but 0 goes to 0. -/
theorem crcBit_eq_zero {r : BitVec 16} (h : crcBit r false = 0#16) : r = 0#16 := by
  rw [crcBit_eq, Bool.xor_false] at h
  cases leaves : r.msb with
  | true =>
    rw [leaves] at h
    have lowest := congrArg (fun v : BitVec 16 => v.getLsbD 0) h
    simp [crcFeedback, crcGenerator] at lowest
  | false =>
    rw [leaves, crcFeedback, if_neg (by decide), BitVec.xor_zero] at h
    have top := BitVec.msb_eq_false_iff_two_mul_lt.mp leaves
    bv_omega

theorem crcByte_zero_eq_zero {r : BitVec 16} (h : crcByte r 0#8 = 0#16) : r = 0#16 := by
  have bits : byteBits 0#8 = List.replicate 8 false := rfl
  rw [crcByte, bits] at h
  simp only [List.replicate_succ, List.replicate_zero, List.foldl_cons, List.foldl_nil] at h
  iterate 7 replace h := crcBit_eq_zero h
  exact crcBit_eq_zero h

theorem crcByte_zero_byte : ∀ b : Byte, crcByte 0#16 b = 0#16 → b = 0#8 := by
  decide +kernel

theorem crcByte_register_injective {r r' : BitVec 16} {a : Byte} (h : crcByte r a = crcByte r' a) : r = r' := by
  have difference := crcByte_xor r r' a a
  rw [h, BitVec.xor_self, BitVec.xor_self] at difference
  exact BitVec.xor_eq_zero_iff.mp (crcByte_zero_eq_zero difference)

theorem crcByte_byte_injective {r : BitVec 16} {a b : Byte} (h : crcByte r a = crcByte r b) : a = b := by
  have difference := crcByte_xor r r a b
  rw [h, BitVec.xor_self, BitVec.xor_self] at difference
  exact BitVec.xor_eq_zero_iff.mp (crcByte_zero_byte _ difference)

theorem crcFrom_injective {r r' : BitVec 16} {bytes : List Byte} (h : crcFrom r bytes = crcFrom r' bytes) : r = r' := by
  induction bytes generalizing r r' with
  | nil => exact h
  | cons a rest ih => exact crcByte_register_injective (ih h)

theorem crcFrom_set {r : BitVec 16} {bytes : List Byte} {i : Nat} {b : Byte} (inside : i < bytes.length)
    (h : crcFrom r (bytes.set i b) = crcFrom r bytes) : bytes[i] = b := by
  induction bytes generalizing r i with
  | nil => cases inside
  | cons a rest ih =>
    cases i with
    | zero => exact (crcByte_byte_injective (crcFrom_injective h)).symm
    | succ i => exact ih (Nat.lt_of_succ_lt_succ inside) h

/-! ### The check (R170, R171) -/

theorem crcBytes_injective {c c' : BitVec 16} (h : crcBytes c = crcBytes c') : c = c' := by
  have whole : ∀ x : BitVec 16, x.extractLsb' 8 8 ++ x.extractLsb' 0 8 = x := fun x => by
    rw [BitVec.extractLsb'_append_extractLsb'_eq_extractLsb' (by rfl), BitVec.extractLsb'_eq_self]
  simp only [crcBytes, List.cons.injEq] at h
  rw [← whole c, ← whole c', h.1, h.2.1]

theorem crcGood_iff (m : List Byte) : crcGood m = true ↔ m.drop (m.length - 2) = crcBytes (crc (m.take (m.length - 2))) := by
  rw [crcGood, beq_iff_eq]

/-- A byte of the message moves the register to the end; one of the CRC moves what it is compared with. -/
theorem crcGood_set {m : List Byte} {i : Nat} {b : Byte} (good : crcGood m = true) (inside : i < m.length)
    (good' : crcGood (m.set i b) = true) : m[i] = b := by
  rw [crcGood_iff] at good good'
  rw [List.length_set, List.take_set] at good'
  rcases Nat.lt_or_ge i (m.length - 2) with covered | carried
  · rw [List.drop_set_of_lt covered, good] at good'
    have same := crcFrom_set (r := 0xFFFF#16) (by rw [List.length_take]; omega) (crcBytes_injective good').symm
    rwa [List.getElem_take] at same
  · rw [List.set_eq_of_length_le (l := m.take (m.length - 2)) (by rw [List.length_take]; omega), ← good] at good'
    have same := congrArg (fun l => l[i - (m.length - 2)]?) good'
    simp only [List.getElem?_drop, Nat.add_sub_cancel' carried, List.getElem?_set_self inside, List.getElem?_eq_getElem inside] at same
    exact (Option.some.inj same).symm

theorem crc_eq_foldl (bytes : List Byte) : crc bytes = (bytes.flatMap byteBits).foldl crcBit 0xFFFF#16 := List.foldl_flatMap.symm

/-! ### Bodies (R192) -/

theorem stampBytes_eq (i : Index) : stampBytes i = [i.extractLsb' 8 8, i.extractLsb' 0 8] := by
  refine congrArg₂ List.cons (BitVec.eq_of_toNat_eq ?_) (congrArg₂ List.cons (BitVec.eq_of_toNat_eq ?_) rfl)
  · simp only [byte, BitVec.toNat_ofNat, BitVec.extractLsb'_toNat, Nat.shiftRight_eq_div_pow]
  · simp only [byte, BitVec.toNat_ofNat, BitVec.extractLsb'_toNat, Nat.shiftRight_zero]

theorem flag_pair (first second : Bool) :
    [byte (flag first + 2 * flag second)] = [BitVec.ofNat 8 ((if first then 1 else 0) + if second then 2 else 0)] := by
  cases first <;> cases second <;> rfl

/-- Settles O14: the register is linear and injective, so that one changed byte changes the CRC or what it is compared with. -/
theorem builtMessagesPassCheck : Obligations.BuiltMessagesPassCheck := by
  unfold Obligations.BuiltMessagesPassCheck
  intro take bits check
  have takeIs : take = crcBit := funext fun r => funext fun bit => (crcBit_eq r bit).symm
  have checkIs : check = fun bytes => crcBytes (crc bytes) := funext fun bytes => by
    show crcBytes ((bytes.flatMap byteBits).foldl take 0xFFFF#16) = _
    rw [takeIs, crc_eq_foldl]
  clear_value check
  subst checkIs
  refine ⟨fun bytes => ⟨rfl, fun high low => ?_⟩, fun device kind body => ⟨rfl, crcGood_withCrc _⟩, fun m i b _ good inside changed => ?_,
    fun n channel note velocity stamp first second cause g p => ?_⟩
  · have length : (bytes ++ [high, low]).length - 2 = bytes.length := by simp
    rw [crcGood_iff, length, List.drop_left, List.take_left]
  · exact Bool.eq_false_iff.mpr fun good' => changed (crcGood_set good inside good')
  · dsimp only
    refine ⟨?_, ?_, ?_, ?_, ?_, rfl, rfl, rfl, rfl, rfl, rfl, rfl, rfl, rfl⟩
    · rw [strikeBody, stampBytes_eq, flag_pair]
      rfl
    · rw [shiftBody, stampBytes_eq, flag_pair]
      rfl
    · rw [liftBody, stampBytes_eq]
      cases cause <;> rfl
    · rw [glideBody, stampBytes_eq]
      rfl
    · rw [pressBody, stampBytes_eq]
      rfl

end Sys2Proof.Machine
end

section
/-! PUT and MODE: a record written, what a write of the output mode and of the enable does to the string, and the refusals. -/

namespace Sys2Proof.Machine

/-! ### The record a PUT names -/

section
variable {tag table index : Byte} {bytes : List Byte} {s : State}

theorem putRequest_record {name : RecordName} (named : recordName table.toNat index.toNat = .ok name) (fits : bytes.length = name.length) :
    putRequest ([tag, table, index] ++ bytes) s = putRecord name bytes s := by
  simp only [List.cons_append, List.nil_append, putRequest, named, if_pos fits]

theorem putRequest_error {e : Result} (unnamed : recordName table.toNat index.toNat = .error e) :
    putRequest ([tag, table, index] ++ bytes) s = (s, .code e) := by
  simp only [List.cons_append, List.nil_append, putRequest, unnamed]

theorem putRequest_badLength {name : RecordName} (named : recordName table.toNat index.toNat = .ok name) (misfits : bytes.length ≠ name.length) :
    putRequest ([tag, table, index] ++ bytes) s = (s, .code .badLength) := by
  simp only [List.cons_append, List.nil_append, putRequest, named, if_neg misfits]

theorem putRequest_pair : putRequest [tag, table] s = (s, .code .badLength) := rfl

theorem putRequest_tag : putRequest [tag] s = (s, .code .badLength) := rfl

theorem putRequest_empty : putRequest [] s = (s, .code .badLength) := rfl

end

section
variable {index : Nat}

theorem stringOf_inside (low : 1 ≤ index) (high : index ≤ 6) : ∃ n, stringOf index = some n := by
  have inside : index = 1 ∨ index = 2 ∨ index = 3 ∨ index = 4 ∨ index = 5 ∨ index = 6 := by omega
  rcases inside with rfl | rfl | rfl | rfl | rfl | rfl <;> exact ⟨_, rfl⟩

end

/-! ### A string record written -/

section
variable {n : StringNo} {r : StringRecord} {s : State} {tag : Byte} {bytes : List Byte}

/-- The state with the record of a string replaced and nothing else. -/
abbrev State.withRecord (s : State) (n : StringNo) (r : StringRecord) : State :=
  { s with tables := { s.tables with strings := s.tables.strings.set n r } }

theorem State.writeString_eq : s.writeString n r = (s.withRecord n r).setUnit n
    (changeEnable (s.record n).enable r.enable r.outputMode s.index
      (changeMode (s.record n).outputMode r.outputMode (strikesOrShifts n s.tx.state) s.index (s.unit n))) := rfl

theorem changeEnable_same {e : Bool} {mode : OutputMode} {stamp : Index} {u : StringUnit} : changeEnable e e mode stamp u = u := if_pos rfl

theorem changeMode_kept {old new : OutputMode} {inFlight : Bool} {stamp : Index} {u : StringUnit} (kept : new ≠ .muted ∨ old = .muted) :
    changeMode old new inFlight stamp u = u := if_neg fun ⟨muted, other⟩ => kept.elim (· muted) other

theorem State.writeString_enable_kept (kept : r.enable = (s.record n).enable) : s.writeString n r = (s.withRecord n r).setUnit n
    (changeMode (s.record n).outputMode r.outputMode (strikesOrShifts n s.tx.state) s.index (s.unit n)) := by
  rw [State.writeString_eq, kept, changeEnable_same]

theorem State.writeString_kept (enable : r.enable = (s.record n).enable) (mode : r.outputMode = (s.record n).outputMode) :
    s.writeString n r = s.withRecord n r := by
  rw [State.writeString_enable_kept enable, changeMode_kept]
  · exact State.setUnit_unit _ n
  · rw [mode]
    exact ne_or_eq _ _

theorem StringRecord.length_bytes (r : StringRecord) : r.bytes.length = 43 := by
  rw [StringRecord.bytes_eq]
  rfl

theorem putString_stored {output : OutputMode} {sample : SampleMode} (outputCode : OutputMode.ofCode (byteAt bytes 1) = some output)
    (sampleCode : SampleMode.ofCode (byteAt bytes 2) = some sample) : putString n bytes s =
      (s.writeString n (readString output sample bytes), putReply bytes (readString output sample bytes).bytes) := by
  simp only [putString, outputCode, sampleCode]

theorem putReply_code (offered stored : List Byte) : (putReply offered stored).result.code = if stored = offered then 0 else 1 := by
  unfold putReply
  split <;> rfl

theorem OutputMode.ofCode_outside {code : Nat} (h : 3 ≤ code) : OutputMode.ofCode code = none := by
  unfold OutputMode.ofCode
  split <;> first | rfl | omega

theorem SampleMode.ofCode_outside {code : Nat} (h : 3 ≤ code) : SampleMode.ofCode code = none := by
  unfold SampleMode.ofCode
  split <;> first | rfl | omega

theorem ZoneMode.ofCode_outside {code : Nat} (h : 2 ≤ code) : ZoneMode.ofCode code = none := by
  unfold ZoneMode.ofCode
  split <;> first | rfl | omega

theorem putString_badValue (h : 3 ≤ byteAt bytes 1 ∨ 3 ≤ byteAt bytes 2) : putString n bytes s = (s, .code .badValue) := by
  unfold putString
  rcases h with output | sample
  · rw [OutputMode.ofCode_outside output]
  · rw [SampleMode.ofCode_outside sample]
    split
    next none => cases none
    next => rfl

variable (serves : s.Serves)
include serves

theorem exec_put_record {table index : Byte} {name : RecordName} (named : recordName table.toNat index.toNat = .ok name)
    (fits : bytes.length = name.length) :
    exec (.put ([tag, table, index] ++ bytes)) s = .next ((putRecord name bytes s).1.answered 0x20 tag
      (putRecord name bytes s).2.result.code (putRecord name bytes s).2.data) :=
  exec_put_served serves (putRequest_record named fits)

theorem exec_put_refused {table index : Byte} {e : Result} (refused : putRequest ([tag, table, index] ++ bytes) s = (s, .code e)) :
    exec (.put ([tag, table, index] ++ bytes)) s = .next (s.answered 0x20 tag e.code []) := exec_put_served serves refused

/-- A PUT of a string record with good codes: written under the rules of its enable and output mode, and answered as stored. -/
theorem exec_put_string {output : OutputMode} {sample : SampleMode} (fits : bytes.length = 43)
    (outputCode : OutputMode.ofCode (byteAt bytes 1) = some output) (sampleCode : SampleMode.ofCode (byteAt bytes 2) = some sample) :
    exec (.put ([tag, 2, byte n.num] ++ bytes)) s = .next ((s.writeString n (readString output sample bytes)).answered 0x20 tag
      (if (readString output sample bytes).bytes = bytes then 0 else 1) (readString output sample bytes).bytes) := by
  rw [exec_put_record (table := 2) serves (recordName_string n) fits, putRecord, putString_stored outputCode sampleCode, putReply_code]
  rfl

/-- A sound record is stored as offered. -/
theorem exec_put_sound_string (sound : r.Sound) :
    exec (.put ([tag, 2, byte n.num] ++ r.bytes)) s = .next ((s.writeString n r).answered 0x20 tag 0 r.bytes) := by
  obtain ⟨output, sample⟩ := ofCode_standsIn (StringRecord.bytes_standsIn sound)
  rw [exec_put_string serves r.length_bytes output sample, readString_bytes sound, if_pos rfl]

end

/-! ### MODE and the output mode -/

section
variable {n : StringNo} {s : State} {tag : Byte}

theorem modeRequest_written {mode : OutputMode} : modeRequest [tag, byte n.num, byte mode.code] s =
    ((s.withRecord n { s.record n with outputMode := mode }).setUnit n
      (changeMode (s.record n).outputMode mode (strikesOrShifts n s.tx.state) s.index (s.unit n)), .code .ok) := by
  simp only [modeRequest, stringOf_num, outputMode_ofCode]
  exact congrArg (·, _) (State.writeString_enable_kept rfl)

theorem modeRequest_badValue {code : Byte} (h : 3 ≤ code.toNat) : modeRequest [tag, byte n.num, code] s = (s, .code .badValue) := by
  simp only [modeRequest, stringOf_num, OutputMode.ofCode_outside h]

theorem modeRequest_badIndex {index code : Byte} (h : index = 0 ∨ 7 ≤ index.toNat) :
    modeRequest [tag, index, code] s = (s, .code .badIndex) := by
  simp only [modeRequest, stringOf_eq_none (Byte.toNat_outside h)]

theorem modeRequest_badLength {body : List Byte} (h : body.length ≠ 2) : modeRequest (tag :: body) s = (s, .code .badLength) := by
  unfold modeRequest
  split
  · next e => cases e; exact absurd rfl h
  · rfl

theorem modeRequest_empty : modeRequest [] s = (s, .code .badLength) := rfl

/-- A STRIKE or a SHIFT of the string is the message in flight (R114). -/
theorem strikesOrShifts_iff (tx : TxState) : strikesOrShifts n tx = true ↔
    ∃ m, tx = .sending m ∧ ((∃ c note, m.item = .strike n c note) ∨ ∃ note, m.item = .shift n note) := by
  cases tx with
  | ready => simp [strikesOrShifts]
  | aborting => simp [strikesOrShifts]
  | sending m => cases item : m.item <;> simp [strikesOrShifts, item]

variable {old : OutputMode} {inFlight : Bool} {stamp : Index} {u : StringUnit}

theorem changeMode_muted (other : old ≠ .muted) : changeMode old .muted inFlight stamp u = mutedEntry inFlight stamp u := if_pos ⟨rfl, other⟩

theorem mutedEntry_lifts (lifts : u.group.isSome = true ∨ inFlight = true) : mutedEntry inFlight stamp u =
    { u with queue := [.lift stamp .mute], glide := none, press := none, context := u.context.unannounce } :=
  if_pos ((Bool.or_eq_true _ _).mpr lifts)

theorem mutedEntry_silent (closed : u.group = none) (quiet : inFlight = false) : mutedEntry inFlight stamp u =
    { u with queue := [], glide := none, press := none, context := u.context.unannounce } :=
  if_neg (by rw [closed, quiet]; decide)

end

/-- Settles O56: the record written, with the MUTED entry exactly at a change to MUTED. -/
theorem modeWritesOutputMode : Obligations.ModeWritesOutputMode := by
  intro tag n s serves u written flushed inFlight leaves
  have flushedIs : flushed = { u with queue := [], glide := none, press := none, context := u.context.unannounce } := by
    cases context : u.context <;> simp only [flushed, context, Context.unannounce]
  clear_value flushed
  subst flushedIs
  have moded : ∀ (mode : OutputMode) (result : StringUnit → Prop),
      result (changeMode (s.record n).outputMode mode (strikesOrShifts n s.tx.state) s.index u) → leaves mode result := by
    intro mode result holds
    refine ⟨fun kept => ?_, ?_⟩
    · rwa [changeMode_kept kept] at holds
    · rintro rfl other
      rw [changeMode_muted other] at holds
      refine ⟨fun lifts => ?_, fun closed quiet => ?_⟩
      · rwa [mutedEntry_lifts (lifts.imp_right (strikesOrShifts_iff _).mpr)] at holds
      · rwa [mutedEntry_silent closed (Bool.eq_false_iff.mpr fun flies => quiet ((strikesOrShifts_iff _).mp flies))] at holds
  clear_value leaves
  refine ⟨fun mode => ?_, fun bytes mode sample fits output sampled => ?_, fun code high => ?_,
    fun index code outside => ?_, fun body long => ?_, ?_⟩
  · apply moded
    exact exec_mode_served serves modeRequest_written
  · intro r kept
    apply moded
    rw [exec_put_string serves fits output sampled, State.writeString_enable_kept kept]
    rfl
  · exact (exec_mode_served serves (modeRequest_badValue (tag := tag) high)).trans rfl
  · exact (exec_mode_served serves (modeRequest_badIndex (tag := tag) outside)).trans rfl
  · exact (exec_mode_served serves (modeRequest_badLength (tag := tag) long)).trans rfl
  · exact (exec_mode_served serves modeRequest_empty).trans rfl

end Sys2Proof.Machine
end

section
/-! PUT of every table, clamped and fixed, and the enable field (R32, R179 to R182). -/

namespace Sys2Proof.Machine

/-! ### The enable field -/

section
variable {mode : OutputMode} {stamp : Index} {u : StringUnit}

theorem changeEnable_off : changeEnable true false mode stamp u =
    { ((endForced mode stamp .disabled u).silenceIn .off) with monitor := .clear, due := { Due.none with lockLoss := u.due.lockLoss } } := by
  simp only [changeEnable, Bool.true_eq_false, Bool.false_eq_true, if_false]

theorem changeEnable_on (off : u.state = .off) : changeEnable false true mode stamp u = { (u.silenceIn .idle) with monitor := .clear } := by
  simp only [changeEnable, Bool.false_eq_true, if_false, if_true, if_pos off]

theorem mutedEntry_eq {inFlight : Bool} : mutedEntry inFlight stamp u =
    { u with queue := if (u.group.isSome || inFlight) = true then [.lift stamp .mute] else [], glide := none, press := none,
             context := u.context.unannounce } := by
  unfold mutedEntry
  split <;> rfl

end

/-- Settles O55: the enable acts on the string as the mode change leaves it. -/
theorem enableTurnsStringOffAndOn : Obligations.EnableTurnsStringOffAndOn := by
  intro tag n r s serves sound inFlight v u t silent off
  have flies : inFlight = strikesOrShifts n s.tx.state := by
    unfold inFlight
    generalize s.tx.state = tx
    cases tx with
    | ready => rfl
    | aborting => rfl
    | sending m =>
      obtain ⟨item, bytes, position⟩ := m
      cases item <;> rfl
  have moded : u = changeMode (s.record n).outputMode r.outputMode (strikesOrShifts n s.tx.state) s.index v := by
    rw [changeMode, mutedEntry_eq, ← flies]
    clear_value inFlight
    by_cases muted : r.outputMode = .muted ∧ (s.record n).outputMode ≠ .muted
    · simp only [u, if_pos muted]
      cases context : v.context <;> simp only [Context.unannounce]
    · simp only [u, if_neg muted]
  have stored : exec (.put ([tag, 2, byte n.num] ++ r.bytes)) s = .next ((t.setUnit n
      (changeEnable (s.record n).enable r.enable r.outputMode s.index u)).answered 0x20 tag 0 r.bytes) := by
    rw [exec_put_sound_string serves sound, State.writeString_eq, moded]
  clear_value u
  refine ⟨fun disabled enabled => ?_, fun enabled disabled state => ?_⟩
  · rw [stored, enabled, disabled, changeEnable_off]
    refine ⟨fun quiet => ?_, fun attack => ?_, fun note sounding context silenced => ?_, fun note sounding context announced accepts room => ?_⟩
    · rw [endForced_of_not_tracked (by rcases quiet with e | e | e <;> cases state : u.state <;> simp_all [StringState.tracked, StringState.faulted])]
      rfl
    · rw [endForced_attack attack]
      rfl
    · rw [endForced_sounding sounding, endNote_silent _ _ context silenced]
      rfl
    · rw [endForced_sounding sounding, endNote_lifted _ _ context announced accepts room]
      rfl
  · rw [stored, enabled, disabled, changeEnable_on state]
    rfl

/-! ### Records clamped and fixed -/

theorem clampNat_near {lo hi : Nat} (ordered : lo ≤ hi) (v : Nat) : clampNat lo hi v = if v < lo then lo else if hi < v then hi else v := by
  unfold clampNat
  split
  · omega
  · split <;> omega

theorem clampInt_near {lo hi : Int} (ordered : lo ≤ hi) (v : Int) : clampInt lo hi v = if v < lo then lo else if hi < v then hi else v := by
  unfold clampInt
  split
  · omega
  · split <;> omega

theorem fixSpan_eq (a s : Nat) : fixSpan a s =
    (if s ≤ a ∧ a = levelMax then levelMax - 1 else a, if s ≤ a then (if a = levelMax then levelMax else a + 1) else s) := by
  unfold fixSpan
  split
  · next below =>
    by_cases top : a = levelMax
    · rw [if_pos top, if_pos ⟨below, top⟩, if_pos top]
    · rw [if_neg top, if_neg fun both => top both.2, if_neg top]
  · next above => rw [if_neg fun both => above both.1]

theorem signedAt2_eq (bytes : List Byte) (i : Nat) : signedAt2 bytes i = (BitVec.ofNat 16 (field2 bytes i)).toInt := by
  refine congrArg BitVec.toInt (BitVec.eq_of_toNat_eq ?_)
  have low := (bytes.getD (i + 1) 0).isLt
  have high := (bytes.getD i 0).isLt
  rw [BitVec.toNat_append, BitVec.toNat_ofNat, field2, byteAt, byteAt, ← Nat.shiftLeft_add_eq_or_of_lt low, Nat.shiftLeft_eq]
  omega

theorem signedAt_eq (bytes : List Byte) (i : Nat) : signedAt bytes i = (BitVec.ofNat 8 (byteAt bytes i)).toInt := by
  rw [byteAt, BitVec.ofNat_toNat, BitVec.setWidth_eq]
  rfl

theorem field2_le (bytes : List Byte) (i : Nat) : field2 bytes i ≤ 65535 := by
  have low := (bytes.getD (i + 1) 0).isLt
  have high := (bytes.getD i 0).isLt
  unfold field2 byteAt
  omega

theorem flagField_eq (v : Nat) : flagField v = decide (v ≠ 0) := by
  rw [flagField, bne, decide_not]
  rfl

theorem readCoefficient_eq (n t : StringNo) (bytes : List Byte) : readCoefficient n t bytes =
    if t = n then 0 else clampInt (-16384) 16383 (BitVec.ofNat 16 (field2 bytes (2 * (t.num - 1)))).toInt := by
  rw [readCoefficient, signedAt2_eq]
  exact if_congr eq_comm rfl rfl

/-! ### PUT of each table -/

section
variable {s : State} (serves : s.Serves) {tag : Byte} {bytes : List Byte}
include serves

theorem exec_put_device (fits : bytes.length = 7) : exec (.put ([tag, 1, 0] ++ bytes)) s = .next
    (State.answered 0x20 tag (if (readDevice bytes).bytes = bytes then 0 else 1) (readDevice bytes).bytes
      { s with tables := { s.tables with device := readDevice bytes } }) := by
  rw [exec_put_record (table := 1) (index := 0) serves (name := .device) rfl fits, ← putReply_code]
  rfl

theorem exec_put_row {n : StringNo} (fits : bytes.length = 12) : exec (.put ([tag, 3, byte n.num] ++ bytes)) s = .next
    (State.answered 0x20 tag (if rowBytes (readRow n bytes) = bytes then 0 else 1) (rowBytes (readRow n bytes))
      { s with tables := { s.tables with matrix := s.tables.matrix.set n (readRow n bytes) } }) := by
  rw [exec_put_record (table := 3) serves (recordName_row n) fits, ← putReply_code]
  rfl

theorem exec_put_zone {i : Fin 32} {mode : ZoneMode} (fits : bytes.length = 8) (coded : ZoneMode.ofCode (byteAt bytes 4) = some mode) :
    exec (.put ([tag, 4, byte i.val] ++ bytes)) s = .next
      (State.answered 0x20 tag (if (readZone mode bytes).bytes = bytes then 0 else 1) (readZone mode bytes).bytes
        { s with tables := { s.tables with zones := s.tables.zones.set i.val (readZone mode bytes) } }) := by
  have put : putRecord (.zone i) bytes s = ({ s with tables := { s.tables with zones := s.tables.zones.set i.val (readZone mode bytes) } },
      putReply bytes (readZone mode bytes).bytes) := by
    simp only [putRecord, putZone, coded]
  rw [exec_put_record (table := 4) serves (recordName_zone i) fits, put, putReply_code]
  rfl

theorem exec_put_zone_badValue {i : Fin 32} (fits : bytes.length = 8) (coded : 2 ≤ byteAt bytes 4) :
    exec (.put ([tag, 4, byte i.val] ++ bytes)) s = .next (s.answered 0x20 tag 6 []) := by
  have put : putRecord (.zone i) bytes s = (s, .code .badValue) := by
    simp only [putRecord, putZone, ZoneMode.ofCode_outside coded]
  rw [exec_put_record (table := 4) serves (recordName_zone i) fits, put]
  rfl

theorem exec_put_curve {i : Fin 4} (fits : bytes.length = 16) : exec (.put ([tag, 5, byte i.val] ++ bytes)) s = .next
    (State.answered 0x20 tag (if curveBytes (readCurve bytes) = bytes then 0 else 1) (curveBytes (readCurve bytes))
      { s with tables := { s.tables with curves := s.tables.curves.set i.val (readCurve bytes) } }) := by
  rw [exec_put_record (table := 5) serves (recordName_curve i) fits, ← putReply_code]
  rfl

end

theorem recordName_inside {table index : Byte} {length : Nat}
    (h : (table = 1 ∧ index = 0 ∧ length ≠ 7) ∨ (table = 2 ∧ 1 ≤ index.toNat ∧ index.toNat ≤ 6 ∧ length ≠ 43) ∨
      (table = 3 ∧ 1 ≤ index.toNat ∧ index.toNat ≤ 6 ∧ length ≠ 12) ∨ (table = 4 ∧ index.toNat ≤ 31 ∧ length ≠ 8) ∨
      (table = 5 ∧ index.toNat ≤ 3 ∧ length ≠ 16)) :
    ∃ name, recordName table.toNat index.toNat = .ok name ∧ length ≠ name.length := by
  rcases h with ⟨rfl, rfl, misfits⟩ | ⟨rfl, low, high, misfits⟩ | ⟨rfl, low, high, misfits⟩ | ⟨rfl, high, misfits⟩ | ⟨rfl, high, misfits⟩
  · exact ⟨.device, rfl, misfits⟩
  · obtain ⟨n, named⟩ := stringOf_inside low high
    exact ⟨.string n, by simp [recordName, named], misfits⟩
  · obtain ⟨n, named⟩ := stringOf_inside low high
    exact ⟨.row n, by simp [recordName, named], misfits⟩
  · exact ⟨.zone ⟨index.toNat, by omega⟩, by simp [recordName, Nat.lt_succ_of_le high], misfits⟩
  · exact ⟨.curve ⟨index.toNat, by omega⟩, by simp [recordName, Nat.lt_succ_of_le high], misfits⟩

/-- Settles O54: each record written by its table, with its fields read from their places and brought into range. -/
theorem putStoresRecords : Obligations.PutStoresRecords := by
  refine ⟨fun tag s serves => ?_, fun output sample bytes => readString_sound output sample bytes, fun mode bytes => readZone_sound mode bytes,
    fun output sample mode bytes => ?_⟩
  · intro result
    refine ⟨fun bytes fits => ⟨readDevice_sound bytes, exec_put_device serves fits⟩, fun n bytes output sample fits coded coded' => ?_,
      fun n r sound enable mode => ?_, fun n bytes fits bad => ?_, fun n bytes fits => ⟨readRow_sound n bytes, exec_put_row serves fits⟩,
      fun i bytes mode fits coded => exec_put_zone serves fits coded, fun i z sound => ?_,
      fun i bytes fits bad => exec_put_zone_badValue serves fits bad,
      fun i bytes fits => ⟨readCurve_sound bytes, exec_put_curve serves fits⟩,
      fun table index bytes => ⟨fun unknown => ?_, fun outside => ?_, fun misfits => ?_, ?_, ?_, ?_⟩⟩
    · intro r enable mode
      rw [exec_put_string serves fits coded coded', State.writeString_kept enable mode]
    · rw [exec_put_sound_string serves sound, State.writeString_kept enable mode]
    · exact exec_put_refused (e := .badValue) serves ((putRequest_record (table := 2) (recordName_string n) fits).trans (putString_badValue bad))
    · have coded : ZoneMode.ofCode (byteAt z.bytes 4) = some z.mode := (congrArg ZoneMode.ofCode z.mode.code_byte).trans (ZoneMode.ofCode_code _)
      have put := exec_put_zone (tag := tag) (i := i) serves (bytes := z.bytes) rfl coded
      rwa [readZone_bytes sound, if_pos rfl] at put
    · exact exec_put_refused serves (putRequest_error (recordName_badTable unknown _))
    · exact exec_put_refused serves (putRequest_error (recordName_badIndex outside))
    · obtain ⟨name, named, misfits⟩ := recordName_inside misfits
      exact exec_put_refused serves (putRequest_badLength named misfits)
    · exact (exec_put_served serves putRequest_pair).trans rfl
    · exact (exec_put_served serves putRequest_tag).trans rfl
    · exact (exec_put_served serves putRequest_empty).trans rfl
  · intro b b2 b3 near link attach span fixedAttach fixedSpan release
    have damp : clampNat 0 65535 (field2 bytes 41) = field2 bytes 41 := clampNat_of_mem (Nat.zero_le _) (field2_le bytes 41)
    refine ⟨?_, ?_, fun n t => ?_, ?_, fun i => ?_⟩
    · rw [readString, damp, fixSpan_eq]
      simp (disch := decide) only [clampNat_near, flagField_eq]
      rfl
    · rw [readDevice]
      simp (disch := decide) only [clampNat_near]
      rfl
    · rw [readRow, Six.get_ofFn, readCoefficient_eq, clampInt_near (by decide)]
      rfl
    · rw [readZone, signedAt_eq, clampInt_near (by decide)]
      simp (disch := decide) only [clampNat_near]
      rfl
    · rw [readCurve_get, clampNat_near (by decide)]
      rfl

end Sys2Proof.Machine
end

section
/-! The resets: what is due before them, the blocks that take them, the late strings and the one answer (R126 to R128, R186, R187). -/

namespace Sys2Proof.Machine

/-! ### Work on every string in turn -/

theorem foldl_modUnit (g : StringNo → StringUnit → StringUnit) (s : State) :
    StringNo.all.foldl (fun s n => s.modUnit n (g n)) s = { s with units := Six.ofFn fun n => g n (s.unit n) } := rfl

/-- Two steps that agree while a property holds that they keep do the same over a list. -/
theorem foldl_congr_of_kept {α β : Type} {P : β → Prop} {f g : β → α → β} (same : ∀ b a, P b → f b a = g b a) (kept : ∀ b a, P b → P (g b a))
    (l : List α) {b : β} (h : P b) : l.foldl f b = l.foldl g b := by
  induction l generalizing b with
  | nil => rfl
  | cons a l ih =>
    rw [List.foldl_cons, List.foldl_cons, same b a h]
    exact ih (kept b a h)

/-- What is due in a string's unit is at most a report to its note engine. -/
abbrev StringUnit.ReportsOnly (u : StringUnit) : Prop := u.dropReports.due = .none

/-! ### Before and after the blocks take the reset (R56; log 16) -/

section
variable {s : State} (late : Six Bool)

theorem State.settleForReset_of_reportsOnly (only : ∀ n, (s.unit n).ReportsOnly) : s.settleForReset late =
    { s with units := Six.ofFn fun n => if late.get n then s.unit n else (s.unit n).dropReports } := by
  refine (foldl_congr_of_kept (P := fun s : State => ∀ n, (s.unit n).ReportsOnly)
    (g := fun s n => s.modUnit n fun u => if late.get n then u else u.dropReports) (fun s n h => ?_) (fun s n h m => ?_) _ only).trans
    (foldl_modUnit _ s)
  · cases held : late.get n with
    | true => exact (s.settleUnreported_of_reports_only n (h n)).trans (s.modUnit_eq_self n _ rfl).symm
    | false =>
      refine State.settleUnreported_of_reports_only n _ ?_
      rw [if_neg Bool.false_ne_true, State.unit_modUnit_self]
      exact h n
  · rw [State.unit_modUnit]
    split
    · split
      · exact h n
      · exact h n
    · exact h m

theorem State.resetLate_of_reportsOnly (full : Bool) (only : ∀ n, late.get n = true → (s.unit n).ReportsOnly) : s.resetLate full late =
    { s with units := Six.ofFn fun n => if late.get n then resetString full (s.unit n) else s.unit n } := by
  refine (foldl_congr_of_kept (P := fun s : State => ∀ n, late.get n = true → (s.unit n).ReportsOnly)
    (g := fun s n => s.modUnit n fun u => if late.get n then resetString full u else u) (fun s n h => ?_) (fun s n h m held => ?_) _ only).trans
    (foldl_modUnit _ s)
  · cases held : late.get n with
    | true =>
      rw [if_pos rfl, State.settleUnreported_of_reports_only n _ (by rw [State.unit_modUnit_self]; exact h n held)]
      cases n <;> rfl
    | false => exact (s.modUnit_eq_self n _ rfl).symm
  · rw [State.unit_modUnit]
    split
    next same =>
      subst same
      rw [if_pos held]
      rfl
    next => exact h m held

end

/-! ### A string's unit -/

/-- A string's unit once every block of it has taken a reset (R35, R56, R105, R127, R146). -/
def resetUnit (full : Bool) (index : Index) (u : StringUnit) : StringUnit :=
  { StringUnit.powerOn with
      state := if u.state = .off ∧ full = false then .off else .idle
      queue := if u.group.isSome then [.lift index .reset] else []
      group := u.group
      counters := if full then .zero else u.counters }

/-- A string's unit when the answer is built: a late one has lost its queue and slots only. -/
def blockUnit (full : Bool) (late : Six Bool) (index : Index) (n : StringNo) (u : StringUnit) : StringUnit :=
  if late.get n then lateUnit full index u else resetUnit full index u

theorem resetString_eq (full : Bool) (u : StringUnit) : resetString full u = { StringUnit.powerOn with
    state := if u.state = .off ∧ full = false then .off else .idle
    queue := u.queue, glide := u.glide, press := u.press, group := u.group, counters := u.counters } := by
  have state : (if u.state = .off ∧ (!full) = true then .off else .idle : StringState) = if u.state = .off ∧ full = false then .off else .idle := by
    exact if_congr (by rw [Bool.not_eq_true']) rfl rfl
  rw [resetString, state]
  rfl

section
variable {full : Bool} {late : Six Bool} {index : Index} {n : StringNo} {u : StringUnit}

theorem resetString_lateUnit : resetString full (lateUnit full index u) = resetUnit full index u := by
  rw [resetString_eq, lateUnit, resetQueue_eq]
  cases full <;> rfl

theorem resetUnit_of_blocks (full : Bool) (index : Index) (u : StringUnit) : resetUnit full index u =
    if full then { resetString full (resetQueue index u.dropReports) with counters := .zero } else resetString full (resetQueue index u.dropReports) := by
  rw [resetString_eq, resetQueue_eq]
  cases full <;> rfl

theorem lateUnit_due : (lateUnit full index u).due = u.due := by
  rw [lateUnit, resetQueue_eq]
  cases full <;> rfl

theorem lateUnit_state : (lateUnit full index u).state = u.state := by
  rw [lateUnit, resetQueue_eq]
  cases full <;> rfl

end

/-! ### The blocks that take the reset (R126, R127, R173, R186) -/

/-- The transmitter under a reset (R126, R127). -/
def resetTx (tx : Transmitter) : Transmitter := ⟨cutTx tx.state, .s6, .s6, []⟩

/-- The part when a reset's answer is built, nothing having arrived in the meantime. -/
def State.atAnswer (full : Bool) (late : Six Bool) (s : State) : State :=
  { s with
      units := Six.ofFn fun n => blockUnit full late s.index n (s.unit n)
      tx := resetTx s.tx
      tables := resetTb full s.tables
      link := if full then .zero else s.link
      relayUp := if full then [] else s.relayUp
      relayDown := if full then [] else s.relayDown
      answers := [] }

theorem State.resetTransmitter_of_not_due {s : State} (idle : ¬ s.tx.CompletionDue) : s.resetTransmitter =
    { s with units := Six.ofFn fun n => resetQueue s.index (s.unit n), tx := resetTx s.tx } := by
  have cut : s.cut = s.setTx (cutTx s.tx.state) := by
    unfold State.cut
    split <;> simp_all [cutTx, State.setTx_self]
  rw [State.resetTransmitter, State.complete_of_not_due idle, cut]
  rfl

theorem State.resetTables_full (s : State) : s.resetTables true =
    { s with units := Six.ofFn fun n => { s.unit n with counters := .zero }, tables := .default, link := .zero,
             relayUp := [], relayDown := [], answers := [] } := rfl

theorem State.resetTables_tracking (s : State) : s.resetTables false = { s with answers := [] } := rfl

/-- What the blocks do to one string, in their order (R56, R127, R186). -/
theorem blockUnit_eq (full : Bool) (late : Six Bool) (index : Index) (n : StringNo) (u : StringUnit) :
    (let v := resetQueue index (if late.get n then u else u.dropReports)
     let w := if late.get n then v else resetString full v
     if full then { w with counters := .zero } else w) = blockUnit full late index n u := by
  rw [blockUnit, lateUnit, resetUnit_of_blocks]
  cases late.get n <;> rfl

theorem State.resetBlocks_eq {s : State} (full : Bool) (late : Six Bool) (only : ∀ n, (s.unit n).ReportsOnly) (idle : ¬ s.tx.CompletionDue) :
    s.resetBlocks full late = s.atAnswer full late := by
  have units : (Six.ofFn fun n => blockUnit full late s.index n (s.unit n)) = _ :=
    congrArg Six.ofFn (funext fun n => (blockUnit_eq full late s.index n (s.unit n)).symm)
  rw [State.resetBlocks, State.settleForReset_of_reportsOnly late only, State.resetTransmitter_of_not_due (by exact idle), State.resetStrings,
    State.atAnswer, units]
  cases full
  · rw [State.resetTables_tracking]
    simp only [State.unit, Six.get_ofFn]
    rfl
  · rw [State.resetTables_full]
    simp only [State.unit, Six.get_ofFn]
    rfl

/-! ### The answer and the end of the reset (R127, R178, R187) -/

theorem quickStatus_congr {v w : Six StringState} (sounds : ∀ n, (v.get n).sounds = (w.get n).sounds)
    (faulted : ∀ n, (v.get n).faulted = (w.get n).faulted) (pickup : SyncState) (store : StoreState) :
    quickStatus v pickup store = quickStatus w pickup store := by
  simp only [quickStatus, show v.x1.sounds = w.x1.sounds from sounds .s1, show v.x2.sounds = w.x2.sounds from sounds .s2,
    show v.x3.sounds = w.x3.sounds from sounds .s3, show v.x4.sounds = w.x4.sounds from sounds .s4,
    show v.x5.sounds = w.x5.sounds from sounds .s5, show v.x6.sounds = w.x6.sounds from sounds .s6,
    show v.x1.faulted = w.x1.faulted from faulted .s1, show v.x2.faulted = w.x2.faulted from faulted .s2,
    show v.x3.faulted = w.x3.faulted from faulted .s3, show v.x4.faulted = w.x4.faulted from faulted .s4,
    show v.x5.faulted = w.x5.faulted from faulted .s5, show v.x6.faulted = w.x6.faulted from faulted .s6]

end Sys2Proof.Machine
end

section
/-! A reset answered: what may arrive in the meantime changes nothing, and the refusals (R127, R177, R178, R187). -/

namespace Sys2Proof.Machine

section
variable {s t : State} {full : Bool} {tag : Byte} {order : ResetOrder} {late : Six Bool}

theorem State.unit_atAnswer (n : StringNo) : (s.atAnswer full late).unit n = blockUnit full late s.index n (s.unit n) :=
  Six.get_ofFn _ n

theorem State.resetPart_of_arrived (arrived : order.meanwhile.foldl (fun s a => s.arrive a) (s.resetBlocks full order.late) = t)
    (only : ∀ n, order.late.get n = true → (t.unit n).ReportsOnly) : s.resetPart full tag order =
      { t.answered 0x27 tag 0 [] with
          units := Six.ofFn fun n => if order.late.get n then resetString full (t.unit n) else t.unit n } := by
  simp only [State.resetPart, arrived, State.answer_eq_answered]
  exact State.resetLate_of_reportsOnly _ full only

/-- The part after a reset and its answer (R186, R187). -/
def State.afterReset (full : Bool) (tag : Byte) (late : Six Bool) (s : State) : State :=
  { (s.atAnswer full late).answered 0x27 tag 0 [] with units := Six.ofFn fun n => resetUnit full s.index (s.unit n) }

theorem blockUnit_of_late {n : StringNo} {index : Index} {u : StringUnit} (held : late.get n = true) :
    blockUnit full late index n u = lateUnit full index u := if_pos held

theorem blockUnit_of_not_late {n : StringNo} {index : Index} {u : StringUnit} (taken : late.get n = false) :
    blockUnit full late index n u = resetUnit full index u := if_neg (by rw [taken]; exact Bool.false_ne_true)

theorem resetLate_blockUnit (late : Six Bool) (n : StringNo) (index : Index) (u : StringUnit) :
    (if late.get n then resetString full (blockUnit full late index n u) else blockUnit full late index n u) = resetUnit full index u := by
  cases held : late.get n with
  | true => rw [if_pos rfl, blockUnit_of_late held, resetString_lateUnit]
  | false => rw [if_neg Bool.false_ne_true, blockUnit_of_not_late held]

theorem reportsOnly_lateUnit {index : Index} {u : StringUnit} (only : u.ReportsOnly) : (lateUnit full index u).ReportsOnly := by
  unfold StringUnit.ReportsOnly StringUnit.dropReports
  rw [lateUnit_due]
  exact only

theorem State.resetPart_alone (only : ∀ n, (s.unit n).ReportsOnly) (idle : ¬ s.tx.CompletionDue) (alone : order.meanwhile = []) :
    s.resetPart full tag order = s.afterReset full tag order.late := by
  rw [State.resetPart_of_arrived (t := s.atAnswer full order.late) (by rw [alone, State.resetBlocks_eq full _ only idle]; rfl)
    fun n held => by rw [State.unit_atAnswer, blockUnit_of_late held]; exact reportsOnly_lateUnit (only n)]
  simp only [State.unit_atAnswer, resetLate_blockUnit]
  rfl

/-! ### A lock between the reset and its answer (R127) -/

section
variable {tb : Tables} {n : StringNo} {u : StringUnit} {report : LockReport} {deadline : Deadline} {z : ZoneRecord}

/-- The LOCK of a pending note whose queue refuses: the note sounds and nothing is offered or counted (R91, R127). -/
theorem takeLock_refused (due : u.due.lock = some report) (attack : u.state = .attack) (pending : u.context = .pending deadline)
    (refusing : u.refusing = true)
    (found : zoneSearch tb.zones (tb.strings.get n).zoneHead (rawNote (pitchOf tb.device report.period)) = some z) :
    takeLock tb n u = { soundingUnit tb report.period true
        { u with tracker := u.tracker.takeLock report.k report.period, due := { u.due with lock := none } } with
      context := .struck (newNote (rawNote (pitchOf tb.device report.period)) (some z.copy) false) } := by
  have refused : u.accepts (tb.strings.get n).outputMode = false := by
    rw [StringUnit.accepts, refusing]
    exact Bool.and_false _
  rw [takeLock_due due, lockReport_pending (by exact attack) (by exact pending), strike_refused (by exact attack) found (by exact refused)]
  rfl

theorem lateUnit_refusing {index : Index} : (lateUnit full index u).refusing = true := by
  rw [lateUnit, resetQueue_eq]
  cases full <;> rfl

theorem lateUnit_context {index : Index} : (lateUnit full index u).context = u.context := by
  rw [lateUnit, resetQueue_eq]
  cases full <;> rfl

end

theorem State.setUnit_answered (n : StringNo) (w : StringUnit) (sounds : w.state.sounds = (t.unit n).state.sounds)
    (faulted : w.state.faulted = (t.unit n).state.faulted) :
    (t.setUnit n w).answered 0x27 tag 0 [] = (t.answered 0x27 tag 0 []).setUnit n w := by
  have quick : (t.setUnit n w).quick = t.quick := by
    refine quickStatus_congr (fun m => ?_) (fun m => ?_) _ _ <;>
    · rw [State.states, State.states, Six.get_ofFn, Six.get_ofFn, State.unit_setUnit]
      split
      next same => rw [same]; assumption
      next => rfl
  unfold State.answered
  rw [quick]
  rfl

theorem State.resetPart_lock (only : ∀ n, (s.unit n).ReportsOnly) (idle : ¬ s.tx.CompletionDue) {n : StringNo} {report : LockReport}
    {deadline : Deadline} {z : ZoneRecord} (locks : order.meanwhile = [.event n .lock]) (held : order.late.get n = true)
    (due : (s.unit n).due.lock = some report) (attack : (s.unit n).state = .attack) (pending : (s.unit n).context = .pending deadline)
    (found : zoneSearch s.tables.zones (s.record n).zoneHead (rawNote (pitchOf s.tables.device report.period)) = some z) :
    s.resetPart false tag order = s.afterReset false tag order.late := by
  let v := lateUnit false s.index (s.unit n)
  have waits : (s.atAnswer false order.late).unit n = v := (State.unit_atAnswer n).trans (blockUnit_of_late held)
  obtain ⟨w, struck⟩ : ∃ w, w = takeLock s.tables n v := ⟨_, rfl⟩
  have struck' := struck.trans (takeLock_refused ((congrArg Due.lock lateUnit_due).trans due) (lateUnit_state.trans attack)
    (lateUnit_context.trans pending) lateUnit_refusing found)
  have arrived : order.meanwhile.foldl (fun s a => s.arrive a) (s.resetBlocks false order.late) = (s.atAnswer false order.late).setUnit n w := by
    rw [locks, State.resetBlocks_eq false _ only idle, struck, ← waits]
    rfl
  have last : resetString false w = resetString false v := by
    rw [resetString_eq, resetString_eq, struck', lateUnit_state.trans attack]
    rfl
  have dueLeft : w.ReportsOnly := by
    unfold StringUnit.ReportsOnly StringUnit.dropReports
    rw [struck, takeLock_takes_due]
    exact reportsOnly_lateUnit (only n)
  have state : w.state = .sounding := by rw [struck']; rfl
  have before : ((s.atAnswer false order.late).unit n).state = .attack := by rw [waits]; exact lateUnit_state.trans attack
  rw [State.resetPart_of_arrived arrived fun m late => ?_, State.setUnit_answered n w (by rw [state, before]; rfl) (by rw [state, before]; rfl)]
  · have units : ∀ m, (if order.late.get m then resetString false (((s.atAnswer false order.late).setUnit n w).unit m)
        else ((s.atAnswer false order.late).setUnit n w).unit m) = resetUnit false s.index (s.unit m) := fun m => by
      rw [State.unit_setUnit, ← resetLate_blockUnit order.late, ← State.unit_atAnswer]
      by_cases same : m = n
      · rw [if_pos same, same, if_pos held, if_pos held, last, waits]
      · rw [if_neg same]
    simp only [units]
    rfl
  · rw [State.unit_setUnit]
    split
    next => exact dueLeft
    next => rw [State.unit_atAnswer, blockUnit_of_late late]; exact reportsOnly_lateUnit (only m)

end

/-! ### A RESET by its body (R177, R186, R193) -/

section
variable {s : State} {tag : Byte} {order : ResetOrder}

theorem State.takeRequest_of_room (room : s.answers.length ≤ 3) (execute : State → State) : s.takeRequest execute = execute s := if_pos room

theorem exec_resetTracking_taken (room : s.answers.length ≤ 3) : exec (.resetTracking tag order) s = .next (s.resetPart false tag order) :=
  congrArg _ (State.takeRequest_of_room room _)

theorem exec_resetFull_taken (room : s.answers.length ≤ 3) : exec (.resetFull tag order) s = .next (s.resetPart true tag order) :=
  congrArg _ (State.takeRequest_of_room room _)

theorem State.admitRequest_of_serves (serves : s.Serves) (execute : State → State) : s.admitRequest execute = execute s := by
  simp only [State.admitRequest, serves.1, State.takeRequest, if_pos serves.2]

theorem State.resetRequest_badValue (serves : s.Serves) {scope : Byte} (tracking : scope ≠ 1) (full : scope ≠ 2) :
    s.resetRequest [tag, scope] order = s.answered 0x27 tag 6 [] := by
  have refused : s.resetRequest [tag, scope] order = s.admitRequest (State.answer kindReset tag (.code .badValue)) :=
    (if_neg tracking).trans (if_neg full)
  rw [refused, State.admitRequest_of_serves serves, State.answer_eq_answered]
  rfl

theorem State.resetRequest_badLength (serves : s.Serves) {body : List Byte} (misfits : body.length ≠ 2) :
    s.resetRequest body order = s.answered 0x27 (tagOf body) 5 [] := by
  have refused : s.resetRequest body order = s.admitRequest (State.answer kindReset (tagOf body) (.code .badLength)) := by
    unfold State.resetRequest
    split
    next => exact absurd rfl misfits
    next => rfl
  rw [refused, State.admitRequest_of_serves serves, State.answer_eq_answered]
  rfl

end

/-- Settles O60: the blocks take the reset with nothing due but reports, and the late strings' units after the answer. -/
theorem resetsReachEveryBlock : Obligations.ResetsReachEveryBlock := by
  intro tag order s room unit tx answer tracking full
  have txIs : tx = resetTx s.tx := by
    unfold tx resetTx
    generalize s.tx.state = state
    cases state <;> rfl
  have quick : ∀ scope, (s.atAnswer scope order.late).quick = quickStatus
      (Six.ofFn fun n => if order.late.get n then (s.unit n).state else (unit scope n).state) s.pickup.receiver.state s.store.state := by
    intro scope
    refine congrArg (quickStatus · s.pickup.receiver.state s.store.state) (Six.ext_get fun n => ?_)
    rw [State.states, Six.get_ofFn, Six.get_ofFn, State.unit_atAnswer]
    cases held : order.late.get n with
    | true => rw [blockUnit_of_late held, lateUnit_state, if_pos rfl]
    | false =>
      rw [blockUnit_of_not_late held, if_neg Bool.false_ne_true]
      rfl
  have trackingIs : s.afterReset false tag order.late = tracking := by
    rw [State.afterReset, State.answered, quick]
    unfold tracking
    rw [txIs]
    rfl
  have fullIs : s.afterReset true tag order.late = full := by
    rw [State.afterReset, State.answered, quick]
    unfold full
    rw [txIs]
    rfl
  refine ⟨fun only idle => ⟨fun alone => ⟨?_, ?_⟩, fun n report deadline z locks held due attack pending found => ?_⟩,
    fun present => ⟨fun scope tracks resets => ?_, fun body misfits => ?_, ?_⟩⟩
  · rw [exec_resetTracking_taken room, State.resetPart_alone only idle alone, trackingIs]
  · rw [exec_resetFull_taken room, State.resetPart_alone only idle alone, fullIs]
  · rw [exec_resetTracking_taken room, State.resetPart_lock only idle locks held due attack pending found, trackingIs]
  · exact State.resetRequest_badValue ⟨present, room⟩ tracks resets
  · exact State.resetRequest_badLength (body := tag :: body) ⟨present, room⟩ (by rw [List.length_cons]; omega)
  · exact State.resetRequest_badLength (order := order) (body := []) ⟨present, room⟩ (by decide)

end Sys2Proof.Machine
end

section
/-! A pickup frame time in SYNC: what it takes from the line before the blocks' work, and the third bad sync in a row (R162, R163, R167 to R170). -/

namespace Sys2Proof.Machine

/-! ### What the blocks' work and the strings' events leave alone -/

/-- The link counters but those that the blocks' work on a frame may count: lost notices and DROP slips. -/
def LinkCounters.unslipped (l : LinkCounters) : LinkCounters := { l with noticesLost := 0, dropSlips := 0 }

/-- What an accepted frame takes from the line: the index, the pickup link, the relay, the frame sent back and the counters. -/
def State.intake (s : State) : Index × PickupLink × List (List Byte) × List (List Byte) × Option FrameBits × LinkCounters :=
  (s.index, s.pickup, s.relayUp, s.relayDown, s.pickupOut, s.link.unslipped)

@[simp] theorem State.intake_offerNotice (s : State) (x : Notice) : (s.offerNotice x).intake = s.intake := by
  unfold State.offerNotice
  split
  · split <;> rfl
  · rfl

theorem State.intake_takeEvent (n : StringNo) (e : Event) (s : State) : (s.takeEvent n e).intake = s.intake :=
  State.takeEvent_keeps (P := fun t => t.intake = s.intake) (fun t x h => (t.intake_offerNotice x).trans h) n e s rfl

theorem State.intake_offerRecord (record : FrameRecord) (s : State) : (s.offerRecord record).intake = s.intake := by
  rcases s.offerRecord_cases record with ⟨-, e⟩ | ⟨_, -, e⟩ <;> rw [e]
  · rfl
  · exact State.intake_offerNotice _ _

theorem intake_runAct (ws : Work × State) (act : FrameAct) : (runAct ws act).2.intake = ws.2.intake := by
  obtain ⟨w, s⟩ := ws
  rcases runAct_cases w s act with e | ⟨-, -, e⟩ | ⟨n, -, e⟩ | ⟨n, -, e⟩ | ⟨n, -, e⟩ | ⟨n, v, -, e⟩ | ⟨n, -, e⟩ <;> rw [e]
  · exact s.intake_offerRecord _
  · rfl
  · rfl
  · rfl
  · exact s.intake_takeEvent n v
  · exact s.settle_keeps (P := fun t => t.intake = s.intake) n (fun t v h => (t.intake_takeEvent n v).trans h) rfl

theorem State.intake_runFrame (w : Work) (acts : List FrameAct) (s : State) : (s.runFrame w acts).intake = s.intake :=
  State.runFrame_keeps (P := fun t => t.intake = s.intake) (fun ws a h => (intake_runAct ws a).trans h) (fun _ _ h => h) w acts s rfl

theorem State.intake_settleBut (waits : Six Bool) (s : State) : (s.settleBut waits).intake = s.intake :=
  s.settleBut_keeps (P := fun t => t.intake = s.intake) (fun t n e h => (t.intake_takeEvent n e).trans h) waits rfl

theorem State.settleBut_inProcess (waits : Six Bool) (s : State) : (s.settleBut waits).inProcess = s.inProcess :=
  s.settleBut_keeps (P := fun t => t.inProcess = s.inProcess) (fun t n e h => (t.takeEvent_inProcess n e).trans h) waits rfl

theorem State.finishLeft_free {s : State} (free : s.inProcess = none) : s.finishLeft false = s.settleAll := by
  have left : ∀ acts, s.runLeft acts = s := fun acts => by rw [State.runLeft, free]
  simp only [State.finishLeft, left, Bool.false_eq_true, if_false]

theorem State.resume_free {s : State} (free : s.inProcess = none) (before : List FrameAct) (waits : Six Bool) : s.resume before waits = s := by
  unfold State.resume
  rw [free]

/-- The part with a frame time judged and no entry due (R162). -/
def State.judgedBy (frame : Option FrameBits) (s : State) : State :=
  { s with
      pickup := { s.pickup with receiver := (s.pickup.receiver.judge (frameGood frame)).1 }
      drawn := s.drawn + (if frame.isNone then 1 else 0)
      pickupOut := none }

theorem State.intake_judgedBy {s t : State} (same : t.intake = s.intake) (frame : Option FrameBits) :
    (t.judgedBy frame).intake = (s.judgedBy frame).intake := by
  simp only [State.intake, Prod.mk.injEq] at same
  obtain ⟨index, pickup, up, down, -, link⟩ := same
  simp only [State.intake, State.judgedBy, index, pickup, up, down, link]

/-- A frame time in SYNC with no frame in process whose frame is accepted: only events of strings come before it. -/
theorem State.pickupFrame_accepted {s : State} {frame : Option FrameBits} {order : FrameOrder} (sync : s.pickup.receiver.state = .sync)
    (few : s.pickup.receiver.bad ≤ 2) (taken : (s.pickup.receiver.judge (frameGood frame)).2 = true) (free : s.inProcess = none) :
    s.pickupFrame frame order =
      ((s.settleBut order.entryFirst).judgedBy frame).settleAll.acceptFrame (frameBits frame s.drawn) order := by
  have pickup : (s.settleBut order.entryFirst).pickup = s.pickup := congrArg (·.2.1) (s.intake_settleBut order.entryFirst)
  have free' := (s.settleBut_inProcess order.entryFirst).trans free
  unfold State.pickupFrame
  rw [State.resume_free free]
  generalize s.settleBut order.entryFirst = t at pickup free'
  rw [State.settlePickup_idle (.inl (by rw [pickup]; exact ⟨sync, few⟩))]
  have accepted : (State.judgePickup (frameGood frame) order.hold
      { t with drawn := t.drawn + (if frame.isNone then 1 else 0), pickupOut := none }).2 = true := by
    show (t.pickup.receiver.judge (frameGood frame)).2 = true
    rwa [pickup]
  have judged : (State.judgePickup (frameGood frame) order.hold
      { t with drawn := t.drawn + (if frame.isNone then 1 else 0), pickupOut := none }).1 = t.judgedBy frame :=
    (State.judgePickup_of_taken _ _ _ accepted).1
  dsimp only
  rw [accepted, judged, Bool.not_true, Bool.and_false, State.finishLeft_free (by exact free'), if_pos rfl]

theorem State.intake_settleAll (s : State) : s.settleAll.intake = s.intake := s.intake_settleBut _

/-! ### The side byte (R168, R169, R170) -/

section
variable {tag : Tag} {b : Byte} {s : State}

theorem State.pickupSideByte_quiet {side : SideReceiver} (taken : takeSideByte tag b s.pickup.side = (side, .none)) :
    s.pickupSideByte tag b = { s with pickup := { s.pickup with side := side } } := by
  simp only [State.pickupSideByte, taken]

theorem State.pickupSideByte_abort {side : SideReceiver} (taken : takeSideByte tag b s.pickup.side = (side, .abort)) :
    s.pickupSideByte tag b = State.countAbort { s with pickup := { s.pickup with side := side } } := by
  simp only [State.pickupSideByte, taken]

theorem State.pickupSideByte_long {side : SideReceiver} (taken : takeSideByte tag b s.pickup.side = (side, .long)) :
    s.pickupSideByte tag b = State.countLong { s with pickup := { s.pickup with side := side } } := by
  simp only [State.pickupSideByte, taken]

theorem State.pickupSideByte_complete {side : SideReceiver} {m : List Byte} (taken : takeSideByte tag b s.pickup.side = (side, .complete m)) :
    s.pickupSideByte tag b = State.converterMessage m { s with pickup := { s.pickup with side := side } } := by
  simp only [State.pickupSideByte, taken]

variable {m : List Byte}

theorem State.converterMessage_short (short : m.length ≤ 3) :
    s.converterMessage m = { s with link := { s.link with short := bump s.link.short } } := by
  rw [State.converterMessage, State.checkMessage_short short]

theorem State.converterMessage_bad (atLeast : 4 ≤ m.length) (atMost : m.length ≤ 64) (bad : crcGood m = false) :
    s.converterMessage m = { s with link := { s.link with badCrc := bump s.link.badCrc } } := by
  rw [State.converterMessage, State.checkMessage_bad atLeast atMost bad]

theorem State.converterMessage_good (atLeast : 4 ≤ m.length) (atMost : m.length ≤ 64) (good : crcGood m = true) :
    s.converterMessage m = s.offerDown m := by
  rw [State.converterMessage, State.checkMessage_good atLeast atMost good]

/-- A side byte moves the open message, the counters and relay-down, and nothing else. -/
theorem State.pickupSideByte_shape (tag : Tag) (b : Byte) (s : State) : ∃ side link down,
    s.pickupSideByte tag b = { s with pickup := { s.pickup with side := side }, link := link, relayDown := down } := by
  rcases s.pickupSideByte_cases tag b with ⟨link, -, e⟩ | ⟨m, -, e⟩
  · exact ⟨_, link, s.relayDown, e⟩
  · exact ⟨_, s.link, _, e⟩

end

/-! ### The return frame (R167) -/

section
variable {s : State}

theorem State.sendReturnFrame_idle (ready : s.pickup.ret = .ready) (up : s.relayUp = []) :
    s.sendReturnFrame = { s with pickupOut := some (pickupReturnFrame .idle 0) } := by
  simp only [State.sendReturnFrame, ready, up]

theorem State.sendReturnFrame_first {m : List Byte} {rest : List (List Byte)} (ready : s.pickup.ret = .ready) (up : s.relayUp = m :: rest)
    (long : 2 ≤ m.length) : s.sendReturnFrame =
      { s with pickup := { s.pickup with ret := .sending m 1 }, relayUp := rest, pickupOut := some (pickupReturnFrame .first (m.getD 0 0)) } := by
  have send : sendReturn m 0 = (.sending m 1, .first, m.getD 0 0) := by
    rw [sendReturn, if_neg (by omega)]
    rfl
  simp only [State.sendReturnFrame, ready, up, send]

theorem State.sendReturnFrame_next {m : List Byte} {i : Nat} (sending : s.pickup.ret = .sending m i) (inside : i < m.length) :
    s.sendReturnFrame =
      { s with
          pickup := { s.pickup with ret := if i + 1 = m.length then .ready else .sending m (i + 1) }
          pickupOut := some (pickupReturnFrame (if i = 0 then .first else if i + 1 = m.length then .last else .mid) (m.getD i 0)) } := by
  have send : sendReturn m i = (if i + 1 = m.length then .ready else .sending m (i + 1), positionTag m.length i, m.getD i 0) := by
    rw [sendReturn]
    exact congrArg (·, _) (if_congr (by omega) rfl rfl)
  simp only [State.sendReturnFrame, sending, send]
  rfl

/-- A return frame leaves the index, the open message, relay-down and the counters. -/
theorem State.sendReturnFrame_beside (s : State) : s.sendReturnFrame.index = s.index ∧ s.sendReturnFrame.pickup.side = s.pickup.side ∧
    s.sendReturnFrame.relayDown = s.relayDown ∧ s.sendReturnFrame.link = s.link := by
  obtain ⟨ret, out, e | ⟨m, rest, -, e⟩⟩ := s.sendReturnFrame_cases <;> rw [e] <;> exact ⟨rfl, rfl, rfl, rfl⟩

end

end Sys2Proof.Machine
end

section
/-! An accepted frame in SYNC, and the frame time whose bad sync is the third in a row (R1, R69, R103, R162, R163, R167 to R173). -/

namespace Sys2Proof.Machine

/-! ### The part as it takes an accepted frame -/

/-- The part when an accepted frame's work begins: strings' events taken, the frame time judged. -/
def State.accepting (frame : Option FrameBits) (order : FrameOrder) (s : State) : State :=
  ((s.settleBut order.entryFirst).judgedBy frame).settleAll

theorem LinkCounters.of_unslipped {l m : LinkCounters} (same : l.unslipped = m.unslipped) :
    l = { m with noticesLost := l.noticesLost, dropSlips := l.dropSlips } := by
  simp only [LinkCounters.unslipped, LinkCounters.mk.injEq] at same
  obtain ⟨a, b, c, d, e, f, g, h, i, -, j, -⟩ := same
  cases l
  simp only at a b c d e f g h i j
  simp only [a, b, c, d, e, f, g, h, i, j]

section
variable (frame : Option FrameBits) (order : FrameOrder) (s : State)

theorem State.intake_accepting : (s.accepting frame order).intake = (s.judgedBy frame).intake :=
  (State.intake_settleAll _).trans (State.intake_judgedBy (s.intake_settleBut _) frame)

theorem State.accepting_fields : (s.accepting frame order).index = s.index ∧
    (s.accepting frame order).pickup = { s.pickup with receiver := (s.pickup.receiver.judge (frameGood frame)).1 } ∧
    (s.accepting frame order).relayUp = s.relayUp ∧ (s.accepting frame order).relayDown = s.relayDown ∧
    (s.accepting frame order).link.unslipped = s.link.unslipped := by
  have same := s.intake_accepting frame order
  generalize s.accepting frame order = v at same
  simp only [State.intake, State.judgedBy, Prod.mk.injEq] at same
  obtain ⟨index, pickup, up, down, -, link⟩ := same
  exact ⟨index, pickup, up, down, link⟩

end

/-! ### What an accepted frame leaves -/

section
variable {v : State} {bits : FrameBits} {order : FrameOrder}

/-- The side byte of an accepted frame taken, with the index advanced (R1). -/
def State.sideTaken (bits : FrameBits) (v : State) : State :=
  State.pickupSideByte (pickupTag bits) (pickupSide bits) { v with index := v.index + 1 }

theorem State.intake_acceptFrame : (v.acceptFrame bits order).intake = (v.sideTaken bits).sendReturnFrame.intake :=
  State.intake_runFrame _ _ _

theorem State.sideTaken_beside : (v.sideTaken bits).index = v.index + 1 ∧ (v.sideTaken bits).pickup.receiver = v.pickup.receiver ∧
    (v.sideTaken bits).pickup.ret = v.pickup.ret ∧ (v.sideTaken bits).relayUp = v.relayUp := by
  obtain ⟨side, link, down, e⟩ := State.pickupSideByte_shape (pickupTag bits) (pickupSide bits) { v with index := v.index + 1 }
  rw [State.sideTaken, e]
  exact ⟨rfl, rfl, rfl, rfl⟩

theorem State.acceptFrame_index : (v.acceptFrame bits order).index = v.index + 1 :=
  (congrArg (·.1) State.intake_acceptFrame).trans ((State.sendReturnFrame_beside _).1.trans State.sideTaken_beside.1)

theorem State.acceptFrame_receiver : (v.acceptFrame bits order).pickup.receiver = v.pickup.receiver :=
  (congrArg (·.2.1.receiver) State.intake_acceptFrame).trans ((State.sendReturnFrame_receiver _).trans State.sideTaken_beside.2.1)

/-- What the return transmitter, relay-up and the return frame are after an accepted frame. -/
theorem State.acceptFrame_returns {ret : ReturnTx} {up : List (List Byte)} {out : Option FrameBits}
    (sent : (v.sideTaken bits).sendReturnFrame.pickup.ret = ret ∧ (v.sideTaken bits).sendReturnFrame.relayUp = up ∧
      (v.sideTaken bits).sendReturnFrame.pickupOut = out) :
    (v.acceptFrame bits order).pickup.ret = ret ∧ (v.acceptFrame bits order).relayUp = up ∧ (v.acceptFrame bits order).pickupOut = out := by
  obtain ⟨retIs, upIs, outIs⟩ := sent
  exact ⟨(congrArg (·.2.1.ret) State.intake_acceptFrame).trans retIs, (congrArg (·.2.2.1) State.intake_acceptFrame).trans upIs,
    (congrArg (·.2.2.2.2.1) State.intake_acceptFrame).trans outIs⟩

theorem State.acceptFrame_idle (ready : v.pickup.ret = .ready) (up : v.relayUp = []) :
    (v.acceptFrame bits order).pickup.ret = .ready ∧ (v.acceptFrame bits order).relayUp = [] ∧
      (v.acceptFrame bits order).pickupOut = some (pickupReturnFrame .idle 0) := by
  obtain ⟨-, -, ret, relayUp⟩ := State.sideTaken_beside (v := v) (bits := bits)
  refine State.acceptFrame_returns ?_
  rw [State.sendReturnFrame_idle (ret.trans ready) (relayUp.trans up)]
  exact ⟨ret.trans ready, relayUp.trans up, rfl⟩

theorem State.acceptFrame_first {m : List Byte} {rest : List (List Byte)} (ready : v.pickup.ret = .ready) (up : v.relayUp = m :: rest)
    (long : 2 ≤ m.length) :
    (v.acceptFrame bits order).pickup.ret = .sending m 1 ∧ (v.acceptFrame bits order).relayUp = rest ∧
      (v.acceptFrame bits order).pickupOut = some (pickupReturnFrame .first (m.getD 0 0)) := by
  obtain ⟨-, -, ret, relayUp⟩ := State.sideTaken_beside (v := v) (bits := bits)
  refine State.acceptFrame_returns ?_
  rw [State.sendReturnFrame_first (ret.trans ready) (relayUp.trans up) long]
  exact ⟨rfl, rfl, rfl⟩

theorem State.acceptFrame_next {m : List Byte} {i : Nat} (sending : v.pickup.ret = .sending m i) (inside : i < m.length) :
    (v.acceptFrame bits order).pickup.ret = (if i + 1 = m.length then .ready else .sending m (i + 1)) ∧
      (v.acceptFrame bits order).relayUp = v.relayUp ∧ (v.acceptFrame bits order).pickupOut =
        some (pickupReturnFrame (if i = 0 then .first else if i + 1 = m.length then .last else .mid) (m.getD i 0)) := by
  obtain ⟨-, -, ret, relayUp⟩ := State.sideTaken_beside (v := v) (bits := bits)
  refine State.acceptFrame_returns ?_
  rw [State.sendReturnFrame_next (ret.trans sending) inside]
  exact ⟨rfl, relayUp, rfl⟩

/-- The open message, relay-down and the counters of the side channel are after the frame what its side byte made them. -/
theorem State.acceptFrame_leaves {side : SideReceiver} {link : LinkCounters} {down : List (List Byte)}
    (taken : v.sideTaken bits = { v with
      index := v.index + 1, pickup := { v.pickup with side := side }, link := link, relayDown := down }) :
    (v.acceptFrame bits order).pickup.side = side ∧ (v.acceptFrame bits order).relayDown = down ∧
      (v.acceptFrame bits order).link.unslipped = link.unslipped := by
  obtain ⟨-, sideIs, downIs, linkIs⟩ := State.sendReturnFrame_beside (v.sideTaken bits)
  rw [taken] at sideIs downIs linkIs
  exact ⟨(congrArg (·.2.1.side) State.intake_acceptFrame).trans ((by rw [taken]; exact sideIs)),
    (congrArg (·.2.2.2.1) State.intake_acceptFrame).trans (by rw [taken]; exact downIs),
    (congrArg (·.2.2.2.2.2) State.intake_acceptFrame).trans (by rw [taken]; exact congrArg LinkCounters.unslipped linkIs)⟩

end

/-! ### The open groups (R124) -/

/-- A string's open group is as the state `s` has it. -/
def GroupOf (s : State) : UnitPred := fun _ _ _ n u => u.group = (s.unit n).group

theorem groupOf_kept (s : State) : UnitFrameKept (GroupOf s) where
  envelope _ _ h := (group_envelopeSample _ _ _ _).trans h
  tracker _ _ h := (group_trackerSample _ _ _ _ _).1.trans h
  monitor _ _ _ h := (group_monitorSample _ _ _ _ _).1.trans h
  event _ h := (group_unitEvent _ _ _ _).trans h
  hunt _ h := (group_huntString _ _ _).trans h
  sync h := h
  dropped h := h

theorem State.pickupFrame_group (s : State) (frame : Option FrameBits) (order : FrameOrder) (n : StringNo) :
    ((s.pickupFrame frame order).unit n).group = (s.unit n).group :=
  (groupOf_kept s).frameKept.pickupFrame frame order s (fun _ => rfl) n

end Sys2Proof.Machine
end

section
/-! The open message under each side byte of an accepted frame, and a report that the entry to HUNT overtakes (R69, R103, R168 to R170). -/

namespace Sys2Proof.Machine

/-! ### The side byte of an accepted frame -/

section
variable {v : State} {bits : FrameBits} {side : SideReceiver}

theorem State.sideTaken_quiet (taken : takeSideByte (pickupTag bits) (pickupSide bits) v.pickup.side = (side, .none)) :
    v.sideTaken bits =
      { v with index := v.index + 1, pickup := { v.pickup with side := side }, link := v.link, relayDown := v.relayDown } :=
  State.pickupSideByte_quiet (by exact taken)

theorem State.sideTaken_abort (taken : takeSideByte (pickupTag bits) (pickupSide bits) v.pickup.side = (side, .abort)) :
    v.sideTaken bits =
      { v with index := v.index + 1, pickup := { v.pickup with side := side },
               link := { v.link with aborts := bump v.link.aborts }, relayDown := v.relayDown } :=
  State.pickupSideByte_abort (by exact taken)

theorem State.sideTaken_long (taken : takeSideByte (pickupTag bits) (pickupSide bits) v.pickup.side = (side, .long)) :
    v.sideTaken bits =
      { v with index := v.index + 1, pickup := { v.pickup with side := side },
               link := { v.link with long := bump v.link.long }, relayDown := v.relayDown } :=
  State.pickupSideByte_long (by exact taken)

section
variable {m : List Byte} (taken : takeSideByte (pickupTag bits) (pickupSide bits) v.pickup.side = (side, .complete m))
include taken

theorem State.sideTaken_short (short : m.length ≤ 3) : v.sideTaken bits =
    { v with index := v.index + 1, pickup := { v.pickup with side := side },
             link := { v.link with short := bump v.link.short }, relayDown := v.relayDown } :=
  (State.pickupSideByte_complete (by exact taken)).trans (State.converterMessage_short short)

variable (atLeast : 4 ≤ m.length) (atMost : m.length ≤ 64)
include atLeast atMost

theorem State.sideTaken_bad (bad : crcGood m = false) : v.sideTaken bits =
    { v with index := v.index + 1, pickup := { v.pickup with side := side },
             link := { v.link with badCrc := bump v.link.badCrc }, relayDown := v.relayDown } :=
  (State.pickupSideByte_complete (by exact taken)).trans (State.converterMessage_bad atLeast atMost bad)

theorem State.sideTaken_relayed (good : crcGood m = true) (room : v.relayDown.length ≤ 1) : v.sideTaken bits =
    { v with index := v.index + 1, pickup := { v.pickup with side := side }, link := v.link, relayDown := v.relayDown ++ [m] } :=
  (State.pickupSideByte_complete (by exact taken)).trans ((State.converterMessage_good atLeast atMost good).trans (State.offerDown_room (by exact room)))

theorem State.sideTaken_dropped (good : crcGood m = true) (full : 2 ≤ v.relayDown.length) : v.sideTaken bits =
    { v with index := v.index + 1, pickup := { v.pickup with side := side },
             link := { v.link with relayDrops := bump v.link.relayDrops }, relayDown := v.relayDown } :=
  (State.pickupSideByte_complete (by exact taken)).trans ((State.converterMessage_good atLeast atMost good).trans (State.offerDown_full (by exact full)))

end

end

/-- An accepted frame's receiver: the bad-sync run ends or counts on (R162). -/
theorem Receiver.judge_accepted {r : Receiver} {good : Bool} (sync : r.state = .sync) (run : good = true ∨ r.bad ≤ 1) :
    r.judge good = ({ r with bad := if good then 0 else r.bad + 1 }, true) := by
  cases good with
  | true => exact Receiver.judge_good sync rfl
  | false =>
    have few : r.bad ≤ 1 := run.resolve_left Bool.false_ne_true
    rw [Receiver.judge_bad sync rfl, decide_eq_true (by omega : r.bad + 1 < 3)]
    rfl

/-! ### Strings that wait, and the one string with something due -/

section
variable {s : State}

theorem foldl_settle_idle {waits : Six Bool} {l : List StringNo} (idle : ∀ m ∈ l, waits.get m = true ∨ (s.unit m).due = .none) :
    l.foldl (fun s n => if waits.get n then s else s.settle n) s = s := by
  induction l with
  | nil => rfl
  | cons m l ih =>
    have first : (if waits.get m then s else s.settle m) = s := by
      rcases idle m List.mem_cons_self with held | none_due
      · rw [if_pos held]
      · rw [s.settle_of_due_none m none_due, ite_self]
    rw [List.foldl_cons, first]
    exact ih fun k hk => idle k (List.mem_cons_of_mem m hk)

theorem State.settleBut_idle {waits : Six Bool} (idle : ∀ m, waits.get m = true ∨ (s.unit m).due = .none) : s.settleBut waits = s :=
  foldl_settle_idle fun m _ => idle m

/-- A string with nothing due but its tracker's report hands it over and has nothing due. -/
theorem State.settle_of_report {n : StringNo} (left : (takeReport s.tables n (s.unit n)).due = .none) :
    s.settle n = s.modUnit n (takeReport s.tables n) := by
  have idle : ((s.modUnit n (takeReport s.tables n)).unit n).due = .none := by rw [State.unit_modUnit_self]; exact left
  have rest := State.settle_of_due_none n _ idle
  unfold State.settle Event.canonical at rest ⊢
  rw [List.foldl_cons, State.takeEvent_of_due_none n _ _ idle] at rest
  exact rest

theorem State.settleAll_of_report {n : StringNo} (left : (takeReport s.tables n (s.unit n)).due = .none)
    (others : ∀ m, m ≠ n → (s.unit m).due = .none) : s.settleAll = s.modUnit n (takeReport s.tables n) := by
  have after : ∀ m, ((s.modUnit n (takeReport s.tables n)).unit m).due = .none := fun m => by
    rw [State.unit_modUnit]
    split
    next => exact left
    next other => exact others m other
  obtain ⟨before, rest, split, apart⟩ : ∃ before rest, StringNo.all = before ++ n :: rest ∧ n ∉ before := by
    cases n
    · exact ⟨[], _, rfl, by decide⟩
    · exact ⟨[.s1], _, rfl, by decide⟩
    · exact ⟨[.s1, .s2], _, rfl, by decide⟩
    · exact ⟨[.s1, .s2, .s3], _, rfl, by decide⟩
    · exact ⟨[.s1, .s2, .s3, .s4], _, rfl, by decide⟩
    · exact ⟨[.s1, .s2, .s3, .s4, .s5], _, rfl, by decide⟩
  have turn : (if (Six.same false).get n then s else s.settle n) = s.modUnit n (takeReport s.tables n) := by
    rw [Six.get_same, if_neg Bool.false_ne_true, State.settle_of_report left]
  rw [State.settleAll, State.settleBut, split, List.foldl_append, List.foldl_cons,
    foldl_settle_idle fun m hm => .inr (others m fun same => apart (same ▸ hm)), turn, foldl_settle_idle fun m _ => .inr (after m)]

end

/-! ### A report that the entry to HUNT overtakes (R69, R103) -/

section
variable {u : StringUnit} {r : StringRecord} {stamp : Index}

theorem endNote_unstruck {mode : OutputMode} {cause : LiftCause} (unstruck : ∀ note, u.context ≠ .struck note) :
    endNote mode stamp cause u = u.clearContext := by
  unfold endNote
  split
  next note struck => exact absurd struck (unstruck note)
  all_goals rfl

/-- The entry to HUNT ends the note of a tracked string, and does not look at what is due of the string but its expiry. -/
theorem huntString_tracked (tracked : u.state = .attack ∨ u.state = .sounding) (due : Due) :
    (huntString r stamp u).context = .empty ∧ (huntString r stamp u).pitch = .none ∧
      (huntString r stamp u).due = { u.due with expiry := none } ∧
      huntString r stamp { u with due := due } = { huntString r stamp u with due := { due with expiry := none } } := by
  rcases tracked with attack | sounding
  · rw [huntString_taken (by tauto), huntString_taken (by exact .inl attack), endForced_attack attack, endForced_attack (by exact attack)]
    exact ⟨rfl, rfl, rfl, rfl⟩
  · rw [huntString_taken (by tauto), huntString_taken (by exact .inr (.inl sounding)), endForced_sounding sounding,
      endForced_sounding (by exact sounding)]
    have struckOrNot : (∃ note, u.context = .struck note) ∨ ∀ note, u.context ≠ .struck note := by
      cases u.context <;> simp
    rcases struckOrNot with ⟨note, context⟩ | unstruck
    · by_cases silent : note.announced = false ∨ u.accepts r.outputMode = false ∨ 8 ≤ u.queue.length
      · rw [endNote_silent _ _ context silent, endNote_silent _ _ (by exact context) (by exact silent)]
        exact ⟨rfl, rfl, rfl, rfl⟩
      · simp only [not_or, Bool.not_eq_false, Nat.not_le] at silent
        obtain ⟨announced, accepts, room⟩ := silent
        rw [endNote_lifted _ _ context announced accepts (by omega),
          endNote_lifted _ _ (by exact context) announced (by exact accepts) (by exact Nat.le_of_lt_succ room)]
        exact ⟨rfl, rfl, rfl, rfl⟩
    · rw [endNote_unstruck unstruck, endNote_unstruck (by exact unstruck)]
      exact ⟨rfl, rfl, rfl, rfl⟩

/-- A report that finds no note is discarded (R76, R92). -/
theorem takeReport_discarded (tb : Tables) (n : StringNo) (pitch : u.pitch = .none) (context : u.context = .empty) :
    takeReport tb n u = { u with due := { u.due with report := none } } := by
  cases due : u.due.report with
  | none =>
    have same : ({ u with due := { u.due with report := none } } : StringUnit) = u := by rw [← due]
    rw [same, takeReport, due]
  | some report =>
    obtain ⟨report, stamp⟩ := report
    cases report with
    | hit period => simp only [takeReport, due, hitReport, pitch]
    | jump period => simp only [takeReport, due, jumpReport, pitch]
    | searchPass sum => simp only [takeReport, due, searchPassReport, context]

/-- A tracked string with nothing due but a report: the entry to HUNT first, then the report, is the entry with nothing due. -/
theorem takeReport_huntString {tb : Tables} {n : StringNo} {report : Report × Index} (tracked : u.state = .attack ∨ u.state = .sounding)
    (due : u.due = { Due.none with report := some report }) :
    takeReport tb n (huntString r stamp u) = huntString r stamp { u with due := .none } ∧
      (takeReport tb n (huntString r stamp u)).due = .none := by
  obtain ⟨context, pitch, left, same⟩ := huntString_tracked (r := r) (stamp := stamp) tracked .none
  rw [takeReport_discarded tb n pitch context, same, left, due]
  exact ⟨rfl, rfl⟩

end

end Sys2Proof.Machine
end

section
/-! A pickup frame time in SYNC as a whole: the accepted frame, and the third bad sync in a row (R69, R103, R162 to R170). -/

namespace Sys2Proof.Machine

/-! ### The third bad sync in a row -/

theorem State.pickupHuntEntry_unit (s : State) (n : StringNo) :
    s.pickupHuntEntry.unit n = huntString (s.record n) s.index (s.unit n) := by
  rw [State.pickupHuntEntry, State.unit_offerNotice]
  exact Six.get_ofFn _ n

theorem State.pickupHuntEntry_inProcess (s : State) : s.pickupHuntEntry.inProcess = s.inProcess := by
  simp [State.pickupHuntEntry]

theorem State.setUnit_offerNotice (s : State) (n : StringNo) (u : StringUnit) (x : Notice) :
    (s.offerNotice x).setUnit n u = (s.setUnit n u).offerNotice x := by
  by_cases enabled : s.tables.device.enables x = true
  · by_cases room : s.tx.notices.length ≤ 7
    · rw [State.offerNotice_joins enabled room, State.offerNotice_joins (by exact enabled) (by exact room)]
      rfl
    · rw [State.offerNotice_lost enabled (by omega), State.offerNotice_lost (by exact enabled) (by show 8 ≤ s.tx.notices.length; omega)]
      rfl
  · rw [State.offerNotice_masked (Bool.eq_false_iff.mpr enabled), State.offerNotice_masked (by exact Bool.eq_false_iff.mpr enabled)]

/-- The entry to HUNT with one string's unit replaced is the entry with the string's unit replaced after it. -/
theorem State.pickupHuntEntry_setUnit (s : State) (n : StringNo) (u : StringUnit) :
    (s.setUnit n u).pickupHuntEntry = s.pickupHuntEntry.setUnit n (huntString (s.record n) s.index u) := by
  have units : (s.setUnit n u).huntUnits = s.huntUnits.set n (huntString (s.record n) s.index u) := by
    refine Six.ext_get fun m => ?_
    rw [State.huntUnits, State.huntUnits, Six.get_ofFn, State.unit_setUnit, Six.get_set, Six.get_ofFn]
    split
    next same => rw [same]; rfl
    next => rfl
  rw [State.pickupHuntEntry, State.pickupHuntEntry, State.setUnit_offerNotice, units]
  rfl

section
variable {s : State} {frame : Option FrameBits} {order : FrameOrder} (sync : s.pickup.receiver.state = .sync)
  (bad : s.pickup.receiver.bad = 2) (lost : frameGood frame = false) (free : s.inProcess = none)
include sync bad lost free

/-- The frame time whose bad sync is the third: discarded, with the entry to HUNT where the order does not hold it. -/
theorem State.pickupFrame_third_bad (idle : ∀ m, order.entryFirst.get m = true ∨ (s.unit m).due = .none) : s.pickupFrame frame order =
    State.finishLeft order.hold (if order.hold then s.judgedBy frame else (s.judgedBy frame).pickupHuntEntry) := by
  have run : s.pickup.receiver.judge (frameGood frame) = ({ s.pickup.receiver with bad := 3 }, false) := by
    rw [Receiver.judge_bad sync lost, bad]
    rfl
  have judged : State.judgePickup (frameGood frame) order.hold
      { s with drawn := s.drawn + (if frame.isNone then 1 else 0), pickupOut := none } =
      (if order.hold then s.judgedBy frame else (s.judgedBy frame).pickupHuntEntry, false) := by
    have entered : (s.judgedBy frame).settlePickup = (s.judgedBy frame).pickupHuntEntry :=
      State.settlePickup_hunts (by rw [State.judgedBy, run]; exact sync) (by rw [State.judgedBy, run])
    rw [← entered]
    exact Prod.ext rfl (show (s.pickup.receiver.judge (frameGood frame)).2 = false from congrArg Prod.snd run)
  unfold State.pickupFrame
  rw [State.resume_free free, State.settleBut_idle idle, State.settlePickup_idle (.inl ⟨sync, bad.le⟩)]
  dsimp only
  rw [judged]
  dsimp only
  rw [Bool.not_false, Bool.and_true, if_neg Bool.false_ne_true]

omit free in
theorem State.judgedBy_third_bad : s.judgedBy frame =
    { s with pickup := { s.pickup with receiver := { s.pickup.receiver with bad := 3 } }, pickupOut := none,
             drawn := s.drawn + if frame = none then 1 else 0 } := by
  rw [State.judgedBy, Receiver.judge_bad sync lost, bad, drawn_eq]

theorem State.pickupFrame_third_bad_alone (idle : s.NothingDue) : s.pickupFrame frame order =
    if order.hold then s.judgedBy frame else (s.judgedBy frame).pickupHuntEntry := by
  rw [State.pickupFrame_third_bad sync bad lost free fun m => .inr (idle m)]
  split
  · exact State.finishLeft_of_none _ _ idle free
  · refine State.finishLeft_of_none _ _ (fun n => ?_) (((s.judgedBy frame).pickupHuntEntry_inProcess).trans free)
    rw [State.pickupHuntEntry_unit]
    exact huntString_due_none _ _ _ (idle n)

/-- A report that waits for the judgement finds its note ended by the entry to HUNT. -/
theorem State.pickupFrame_third_bad_report {n : StringNo} {report : Report × Index} (released : order.hold = false)
    (waits : order.entryFirst.get n = true) (tracked : (s.unit n).state = .attack ∨ (s.unit n).state = .sounding)
    (due : (s.unit n).due = { Due.none with report := some report }) (others : ∀ m, m ≠ n → (s.unit m).due = .none) :
    s.pickupFrame frame order = (s.setUnit n { s.unit n with due := .none }).pickupFrame frame order := by
  have idle : ∀ m, order.entryFirst.get m = true ∨ (s.unit m).due = .none := fun m => by
    by_cases same : m = n
    · exact .inl (same ▸ waits)
    · exact .inr (others m same)
  have idle' : (s.setUnit n { s.unit n with due := .none }).NothingDue := fun m => by
    rw [State.unit_setUnit]
    split
    next => rfl
    next other => exact others m other
  have unit : (s.judgedBy frame).pickupHuntEntry.unit n = huntString (s.record n) s.index (s.unit n) := State.pickupHuntEntry_unit _ n
  obtain ⟨handed, left⟩ := takeReport_huntString (r := s.record n) (stamp := s.index) (tb := (s.judgedBy frame).pickupHuntEntry.tables)
    (n := n) tracked due
  have others' : ∀ m, m ≠ n → ((s.judgedBy frame).pickupHuntEntry.unit m).due = .none := fun m other => by
    rw [State.pickupHuntEntry_unit]
    exact huntString_due_none _ _ _ (others m other)
  have entered := (s.judgedBy frame).pickupHuntEntry_inProcess.trans free
  have judged : (s.setUnit n { s.unit n with due := .none }).judgedBy frame = (s.judgedBy frame).setUnit n { s.unit n with due := .none } := rfl
  rw [State.pickupFrame_third_bad sync bad lost free idle,
    State.pickupFrame_third_bad_alone (by exact sync) (by exact bad) lost (by exact free) idle', released,
    if_neg Bool.false_ne_true, if_neg Bool.false_ne_true, State.finishLeft_free entered,
    State.settleAll_of_report (n := n) (by rw [unit]; exact left) others', State.modUnit, unit, handed, judged,
    State.pickupHuntEntry_setUnit]
  rfl

end

/-- Settles O41: the accepted frame by the parts that take it from the line, and the third bad sync in a row. -/
theorem syncAcceptsFrames : Obligations.SyncAcceptsFrames := by
  refine ⟨fun frame order s sync few run free => ?_, fun frame order s sync bad lost free => ⟨fun idle held => ?_, fun idle released => ?_,
    fun n report released waits tracked due others => ?_⟩⟩
  · intro bits tag b
    have bitsIs : bits = frameBits frame s.drawn := by
      unfold bits
      cases frame <;> rfl
    have judged := Receiver.judge_accepted sync run
    obtain ⟨tables, synth, answers, tx, synthOut, pending⟩ : _ ∧ _ ∧ _ ∧ _ ∧ _ ∧ _ := by
      simpa only [State.besidePickup, Prod.mk.injEq] using s.pickupFrame_besidePickup frame order
    obtain ⟨index, pickup, up, down, link⟩ := s.accepting_fields frame order
    have groups := s.pickupFrame_group frame order
    have accepted : s.pickupFrame frame order = (s.accepting frame order).acceptFrame bits order :=
      (State.pickupFrame_accepted sync few (congrArg Prod.snd judged) free).trans (by rw [bitsIs]; rfl)
    rw [accepted] at tables synth answers tx synthOut pending groups
    rw [judged] at pickup
    generalize s.accepting frame order = v at *
    have linkIs := LinkCounters.of_unslipped link
    have ret : v.pickup.ret = s.pickup.ret := by rw [pickup]
    have side : v.pickup.side = s.pickup.side := by rw [pickup]
    refine ⟨v.acceptFrame bits order, (exec_pickupForwardFrame _ _ _).trans (congrArg _ accepted), State.acceptFrame_index.trans (congrArg (· + 1) index),
      State.acceptFrame_receiver.trans (congrArg PickupLink.receiver pickup), tables, synth, answers, tx.1, tx.2.1, tx.2.2, synthOut, pending, groups,
      fun ready empty => State.acceptFrame_idle (ret.trans ready) (up.trans empty),
      fun m rest ready waits long => State.acceptFrame_first (ret.trans ready) (up.trans waits) long, fun m i sending _ inside => ?_, ?_⟩
    · obtain ⟨retIs, upIs, outIs⟩ := State.acceptFrame_next (bits := bits) (order := order) (ret.trans sending) inside
      exact ⟨upIs.trans up, outIs, retIs⟩
    · intro leaves
      have left : ∀ {side' : SideReceiver} {l l' : LinkCounters} {d d' : List (List Byte)}, v.sideTaken bits = { v with
          index := v.index + 1, pickup := { v.pickup with side := side' }, link := l, relayDown := d } →
          l.unslipped = l'.unslipped → d = d' → leaves side' l' d' := fun taken linked dropped => by
        obtain ⟨sideIs, downIs, linkIs⟩ := State.acceptFrame_leaves (order := order) taken
        exact ⟨sideIs, downIs.trans dropped, linkIs.trans linked⟩
      have taken : ∀ {result}, takeSideByte tag b s.pickup.side = result → takeSideByte tag b v.pickup.side = result := fun h => side ▸ h
      refine ⟨fun shut => ?_, fun buffer opened => ⟨fun first => ?_, fun idle => ?_, fun mid room => ?_, fun ends full => ?_, fun last short => ?_,
        fun last atLeast room => ⟨fun bad => ?_, fun good fits => ?_, fun good full => ?_⟩⟩⟩
      · refine left (State.sideTaken_quiet (taken ?_)) link down
        rw [shut]
        split
        next first => rw [first]; rfl
        next other => exact takeSideByte_closed other
      · exact left (State.sideTaken_abort (taken (by rw [opened, first]; rfl))) (by rw [linkIs]; rfl) down
      · exact left (State.sideTaken_abort (taken (by rw [opened, idle]; rfl))) (by rw [linkIs]; rfl) down
      · exact left (State.sideTaken_quiet (taken (by rw [opened, mid]; exact takeSideByte_mid room))) link down
      · exact left (State.sideTaken_long (taken (by rw [opened]; exact takeSideByte_overrun ends full))) (by rw [linkIs]; rfl) down
      all_goals
        have length : (buffer ++ [b]).length = buffer.length + 1 := List.length_append
        have complete := taken ((congrArg₂ (takeSideByte · b) last opened).trans (takeSideByte_last (by omega)))
      · exact left (State.sideTaken_short complete (by omega)) (by rw [linkIs]; rfl) down
      · exact left (State.sideTaken_bad complete (by omega) (by omega) bad) (by rw [linkIs]; rfl) down
      · exact left (State.sideTaken_relayed complete (by omega) (by omega) good (by rw [down]; exact fits)) link (by rw [down])
      · exact left (State.sideTaken_dropped complete (by omega) (by omega) good (by rw [down]; exact full)) (by rw [linkIs]; rfl) down
  · rw [exec_pickupForwardFrame, State.pickupFrame_third_bad_alone sync bad lost free idle, held, if_pos rfl,
      State.judgedBy_third_bad sync bad lost]
  · rw [exec_pickupForwardFrame, State.pickupFrame_third_bad_alone sync bad lost free idle, released, if_neg Bool.false_ne_true,
      State.judgedBy_third_bad sync bad lost, exec_pickupHuntEntry, State.takePickupHunt_due (by exact sync) (by exact Nat.le_refl 3)]
  · exact congrArg Host.Outcome.next (State.pickupFrame_third_bad_report sync bad lost free released waits tracked due others)

end Sys2Proof.Machine
end

section
/-! What a string's own steps leave due, and what they leave alone of its state and its fault monitor. -/

namespace Sys2Proof.Machine

/-! ### The steps a string's own arrivals raise, and their due items -/

theorem jumpReport_due (tb : Tables) (n : StringNo) (period : Nat) (stamp : Index) (u : StringUnit) :
    (jumpReport tb n period stamp u).due = u.due := by
  unfold jumpReport
  split
  · rfl
  · exact followRaw_due ..
  · rfl

theorem hitReport_due (tb : Tables) (n : StringNo) (period : Nat) (stamp : Index) (u : StringUnit) :
    (hitReport tb n period stamp u).due = u.due := by
  unfold hitReport
  split
  · rfl
  · dsimp only
    split
    · exact followRaw_due ..
    · exact glideDecision_due ..
  · rfl

theorem searchPassReport_due (tb : Tables) (n : StringNo) (sum : Nat) (stamp : Index) (u : StringUnit) :
    (searchPassReport tb n sum stamp u).due = u.due := by
  unfold searchPassReport
  split
  · exact strike_due ..
  · rfl

theorem lossReport_due (u : StringUnit) : (lossReport u).due = u.due := by
  unfold lossReport
  split <;> rfl

theorem expireDeadline_due (tb : Tables) (n : StringNo) (stamp : Index) (u : StringUnit) : (expireDeadline tb n stamp u).due = u.due := by
  unfold expireDeadline
  split
  · split
    · exact strike_due ..
    · rfl
  · rfl

theorem endNote_due (mode : OutputMode) (stamp : Index) (cause : LiftCause) (u : StringUnit) :
    (endNote mode stamp cause u).due = { u.due with expiry := none } := by
  unfold endNote
  split
  · split
    · simp only [StringUnit.clearContext, offerLift_due]
    · rfl
  all_goals rfl

theorem takeReport_of_none {tb : Tables} {n : StringNo} {u : StringUnit} (due : u.due.report = none) : takeReport tb n u = u := by
  simp only [takeReport, due]

theorem takeRelease_of_none {r : StringRecord} {u : StringUnit} (due : u.due.release = none) : takeRelease r u = u := by
  simp only [takeRelease, due]

theorem takeExpiry_of_none {tb : Tables} {n : StringNo} {u : StringUnit} (due : u.due.expiry = none) : takeExpiry tb n u = u := by
  simp only [takeExpiry, due]

theorem takeStale_of_none {u : StringUnit} (due : u.due.stale = none) : takeStale u = u := by simp only [takeStale, due]

theorem takeLockLoss_of_none {u : StringUnit} (due : u.due.lockLoss = none) : takeLockLoss u = u := by simp only [takeLockLoss, due]

theorem takeReport_takes_due (tb : Tables) (n : StringNo) (u : StringUnit) : (takeReport tb n u).due = { u.due with report := none } := by
  cases due : u.due.report with
  | none => rw [takeReport_of_none due, ← due]
  | some handed =>
    obtain ⟨report, stamp⟩ := handed
    simp only [takeReport, due]
    cases report with
    | hit period => exact hitReport_due ..
    | jump period => exact jumpReport_due ..
    | searchPass sum => exact searchPassReport_due ..

/-- A release drops an expiry with the context it clears. -/
theorem takeRelease_takes_due (r : StringRecord) (u : StringUnit) :
    ∃ expiry, (takeRelease r u).due = { u.due with release := none, expiry := expiry } := by
  cases due : u.due.release with
  | none => exact ⟨u.due.expiry, by rw [takeRelease_of_none due, ← due]⟩
  | some stamp =>
    simp only [takeRelease, due]
    split
    · exact ⟨none, rfl⟩
    · exact ⟨none, endNote_due ..⟩
    all_goals exact ⟨u.due.expiry, rfl⟩

/-- The expiry takes a lock that is due with it (log 21). -/
theorem takeExpiry_takes_due (tb : Tables) (n : StringNo) (u : StringUnit) :
    ∃ lock, (takeExpiry tb n u).due = { u.due with expiry := none, lock := lock } := by
  cases due : u.due.expiry with
  | none => exact ⟨u.due.lock, by rw [takeExpiry_of_none due, ← due]⟩
  | some stamp =>
    refine ⟨none, ?_⟩
    simp only [takeExpiry, due, expireDeadline_due, takeLock_takes_due]

theorem takeDampExit_takes_due (u : StringUnit) : (takeDampExit u).due = { u.due with dampExit := false } := by
  unfold takeDampExit
  split
  · dsimp only
    split <;> rfl
  · next idle => rw [← eq_false_of_ne_true idle]

theorem outOfRange_outcome (t : Tracker) : (outOfRange t).2 = .quiet ∨ (outOfRange t).2 = .lossDue := by
  cases lock : t.lock with
  | search => rw [outOfRange_search lock]; exact .inl rfl
  | locked =>
    rw [outOfRange_locked lock]
    by_cases few : t.misses ≤ 1
    · rw [missed_early (by exact few)]; exact .inl rfl
    · rw [missed_third (by show 2 ≤ t.misses; omega)]; exact .inr rfl

theorem Tracker.takeStale_outcome (t : Tracker) : t.takeStale.2 = .quiet ∨ t.takeStale.2 = .lossDue := by
  unfold Tracker.takeStale
  split
  · exact outOfRange_outcome _
  · exact .inl rfl

/-- A stale crossing may make a lock loss due (R65). -/
theorem takeStale_takes_due (u : StringUnit) : ∃ loss, (takeStale u).due = { u.due with stale := none, lockLoss := loss } := by
  cases due : u.due.stale with
  | none => exact ⟨u.due.lockLoss, by rw [takeStale_of_none due, ← due]⟩
  | some stamp =>
    simp only [takeStale, due]
    have outcome := u.tracker.takeStale_outcome
    generalize u.tracker.takeStale = crossed at outcome
    obtain ⟨t, o⟩ := crossed
    rcases outcome with quiet | loss
    · obtain rfl : o = .quiet := quiet
      exact ⟨u.due.lockLoss, rfl⟩
    · obtain rfl : o = .lossDue := loss
      exact ⟨some stamp, rfl⟩

theorem takeLockLoss_takes_due (u : StringUnit) : (takeLockLoss u).due = { u.due with lockLoss := none } := by
  cases due : u.due.lockLoss with
  | none => rw [takeLockLoss_of_none due, ← due]
  | some stamp =>
    simp only [takeLockLoss, due]
    exact lossReport_due _

/-- After a string's own steps only its fault steps can be due. -/
theorem StringUnit.settleOwn_due (tb : Tables) (n : StringNo) (u : StringUnit) : (u.settleOwn tb n).due =
    { Due.none with fault := u.due.fault, waitEnd := u.due.waitEnd, recovery := u.due.recovery } := by
  unfold StringUnit.settleOwn
  dsimp only
  rw [takeLock_takes_due, takeLockLoss_takes_due]
  obtain ⟨loss, stale⟩ := takeStale_takes_due
    (takeDampExit (takeExpiry tb n (takeRelease (tb.strings.get n) (takeReport tb n u))))
  rw [stale, takeDampExit_takes_due]
  obtain ⟨lock, expiry⟩ := takeExpiry_takes_due tb n (takeRelease (tb.strings.get n) (takeReport tb n u))
  rw [expiry]
  obtain ⟨expiry, release⟩ := takeRelease_takes_due (tb.strings.get n) (takeReport tb n u)
  rw [release, takeReport_takes_due]
  rfl

/-! ### What a string's own work leaves alone -/

/-- The states in which the envelope unit works (R15) and a fault is entered (R135). -/
def StringState.active (x : StringState) : Prop := x = .idle ∨ x = .attack ∨ x = .sounding ∨ x = .damped

/-- The due items the fault monitor raises. -/
def Due.faults (d : Due) : Option (Cause × Index) × Bool × Bool := (d.fault, d.waitEnd, d.recovery)

theorem endNote_faults (mode : OutputMode) (stamp : Index) (cause : LiftCause) (u : StringUnit) :
    (endNote mode stamp cause u).due.faults = u.due.faults := by
  rw [endNote_due]; rfl

theorem beginAttack_faults (r : StringRecord) (level : Nat) (u : StringUnit) : (beginAttack r level u).due.faults = u.due.faults := rfl

/-- `v` is `u` after work of its envelope unit, its tracker and its note engine: the fault monitor and what it has made due stand,
and the string goes at most from one of the active states to another. -/
structure OwnWork (u v : StringUnit) : Prop where
  state : v.state = u.state ∨ u.state.active ∧ v.state.active
  monitor : v.monitor = u.monitor
  faults : v.due.faults = u.due.faults

namespace OwnWork
variable {u v w : StringUnit}

theorem refl (u : StringUnit) : OwnWork u u := ⟨.inl rfl, rfl, rfl⟩

theorem trans (a : OwnWork u v) (b : OwnWork v w) : OwnWork u w where
  state := by
    rcases a.state with same | ⟨before, after⟩
    · exact same ▸ b.state
    · rcases b.state with same | ⟨-, last⟩
      · exact .inr ⟨before, same ▸ after⟩
      · exact .inr ⟨before, last⟩
  monitor := b.monitor.trans a.monitor
  faults := b.faults.trans a.faults

theorem ofNote (work : NoteWork u v) (faults : v.due.faults = u.due.faults) : OwnWork u v where
  state := work.state.imp_right fun ⟨attack, sounding⟩ => ⟨.inr (.inl attack), .inr (.inr (.inl sounding))⟩
  monitor := work.monitor
  faults := faults

/-- A string stays active, or stays in its state. -/
theorem active_iff (a : OwnWork u v) : v.state.active ↔ u.state.active := by
  rcases a.state with same | ⟨before, after⟩
  · rw [same]
  · exact ⟨fun _ => before, fun _ => after⟩

theorem state_of_not_active (a : OwnWork u v) (left : ¬ u.state.active) : v.state = u.state :=
  a.state.resolve_right fun both => left both.1

theorem takeReport (tb : Tables) (n : StringNo) (u : StringUnit) : OwnWork u (takeReport tb n u) :=
  ofNote (NoteWork.takeReport tb n u) (by rw [takeReport_takes_due]; rfl)

theorem takeRelease (r : StringRecord) (u : StringUnit) : OwnWork u (takeRelease r u) where
  state := by
    unfold Machine.takeRelease
    split
    · exact .inl rfl
    · dsimp only
      split
      · next attack => exact .inr ⟨.inr (.inl attack), .inl rfl⟩
      · next sounding => exact .inr ⟨.inr (.inr (.inl sounding)), .inl rfl⟩
      all_goals exact .inl rfl
  monitor := by
    unfold Machine.takeRelease
    split
    · rfl
    · dsimp only
      split
      · rfl
      · exact endNote_monitor ..
      all_goals rfl
  faults := by
    obtain ⟨expiry, due⟩ := takeRelease_takes_due r u
    rw [due]; rfl

theorem takeLock (tb : Tables) (n : StringNo) (u : StringUnit) : OwnWork u (takeLock tb n u) := by
  unfold Machine.takeLock
  split
  · exact refl u
  · refine trans ?_ (ofNote (NoteWork.lockReport ..) (by rw [lockReport_due]))
    exact ⟨.inl rfl, rfl, rfl⟩

theorem takeExpiry (tb : Tables) (n : StringNo) (u : StringUnit) : OwnWork u (takeExpiry tb n u) := by
  unfold Machine.takeExpiry
  split
  · exact refl u
  · refine trans (takeLock tb n u) (trans ?_ (ofNote (NoteWork.expireDeadline ..) (by rw [expireDeadline_due])))
    exact ⟨.inl rfl, rfl, rfl⟩

theorem takeDampExit (u : StringUnit) : OwnWork u (takeDampExit u) := by
  unfold Machine.takeDampExit
  split
  · dsimp only
    split
    · next left => exact ⟨.inr ⟨.inr (.inr (.inr left.1)), .inl rfl⟩, rfl, rfl⟩
    · exact ⟨.inl rfl, rfl, rfl⟩
  · exact refl u

theorem takeOutcome (stamp : Index) (outcome : TrackOutcome) (u : StringUnit) : OwnWork u (takeOutcome stamp outcome u) := by
  cases outcome <;> exact ⟨.inl rfl, rfl, rfl⟩

theorem takeStale (u : StringUnit) : OwnWork u (takeStale u) := by
  unfold Machine.takeStale
  split
  · exact refl u
  · refine trans ?_ (takeOutcome ..)
    exact ⟨.inl rfl, rfl, rfl⟩

theorem takeLockLoss (u : StringUnit) : OwnWork u (takeLockLoss u) := by
  unfold Machine.takeLockLoss
  split
  · exact refl u
  · refine trans ?_ (ofNote (NoteWork.lossReport _) (by rw [lossReport_due]))
    exact ⟨.inl rfl, rfl, rfl⟩

theorem settleOwn (tb : Tables) (n : StringNo) (u : StringUnit) : OwnWork u (u.settleOwn tb n) :=
  (takeReport tb n u).trans <| (takeRelease _ _).trans <| (takeExpiry tb n _).trans <| (takeDampExit _).trans <|
    (takeStale _).trans <| (takeLockLoss _).trans (takeLock tb n _)

theorem trackerSample (tb : Tables) (n : StringNo) (y : Int) (stamp : Index) (u : StringUnit) :
    OwnWork u (trackerSample tb n y stamp u) := by
  unfold Machine.trackerSample
  split
  · exact refl u
  · refine trans ?_ (takeOutcome ..)
    exact ⟨.inl rfl, rfl, rfl⟩

theorem frameMark (stamp : Index) (u : StringUnit) : OwnWork u (frameMark stamp u) := by
  refine ofNote (NoteWork.frameMark stamp u) ?_
  unfold Machine.frameMark
  split
  · dsimp only
    split <;> rfl
  all_goals rfl

theorem envelopeSample (r : StringRecord) (y : Int) (stamp : Index) (u : StringUnit) : OwnWork u (envelopeSample r y stamp u) := by
  cases state : u.state with
  | idle =>
    rw [envelopeSample_idle state, envelopeIdle]
    split
    · exact ⟨.inr ⟨.inl state, .inr (.inl rfl)⟩, rfl, rfl⟩
    · exact ⟨.inl rfl, rfl, rfl⟩
  | attack =>
    rw [envelopeSample_attack state, envelopeAttack]
    refine trans ?_ (frameMark _ _)
    split <;> exact ⟨.inl rfl, rfl, rfl⟩
  | sounding =>
    rw [envelopeSample_sounding state, envelopeSounding]
    dsimp only
    split
    · refine trans ?_ (frameMark _ _)
      exact ⟨.inl rfl, rfl, rfl⟩
    · split
      · refine ⟨.inr ⟨.inr (.inr (.inl state)), .inr (.inl rfl)⟩, endNote_monitor .., ?_⟩
        rw [beginAttack_faults, endNote_faults]
      · refine trans ?_ (trans (frameMark _ _) (ofNote (NoteWork.pressDecision ..) (by rw [pressDecision_due])))
        exact ⟨.inl rfl, rfl, rfl⟩
  | damped => rw [envelopeSample_damped state]; exact ⟨.inl rfl, rfl, rfl⟩
  | off => rw [envelopeSample_silent (.inl state)]; exact refl u
  | faultWait | faultTest | faultLatched => rw [envelopeSample_silent (.inr (by rw [state]; rfl))]; exact refl u

end OwnWork

end Sys2Proof.Machine
end

section
/-! A string's due steps settled: its own steps as one work on its unit, then the steps of its fault monitor. -/

namespace Sys2Proof.Machine

theorem State.modUnit_modUnit (s : State) (n : StringNo) (f g : StringUnit → StringUnit) :
    (s.modUnit n f).modUnit n g = s.modUnit n fun u => g (f u) := by
  simp only [State.modUnit, State.unit_setUnit_self, State.setUnit_setUnit]

theorem State.modUnit_of_fixed {s : State} {n : StringNo} {f : StringUnit → StringUnit} (fixed : f (s.unit n) = s.unit n) :
    s.modUnit n f = s := by
  rw [State.modUnit, fixed, State.setUnit_unit]

theorem State.settle_eq (n : StringNo) (s : State) : s.settle n =
    (((s.modUnit n (StringUnit.settleOwn s.tables n)).takeEvent n .faultEntry).takeEvent n .faultWaitEnd).takeEvent n .recovery := by
  have own : (((((((s.takeEvent n .report).takeEvent n .release).takeEvent n .strikeDeadlineExpiry).takeEvent n .dampExit).takeEvent n
      .staleCrossing).takeEvent n .lockLoss).takeEvent n .lock) = s.modUnit n (StringUnit.settleOwn s.tables n) := by
    simp only [State.takeEvent, State.modUnit_modUnit, State.modUnit_tables, State.record]
    rfl
  rw [← own]
  rfl

/-- Own steps only: the events a string's own arrivals made due are one work on its unit. -/
theorem State.settle_own {n : StringNo} {s : State} (calm : (s.unit n).due.faults = Due.none.faults) :
    s.settle n = s.modUnit n (StringUnit.settleOwn s.tables n) := by
  obtain ⟨fault, waitEnd, recovery⟩ : (s.unit n).due.fault = none ∧ (s.unit n).due.waitEnd = false ∧ (s.unit n).due.recovery = false := by
    simpa [Due.faults, Due.none] using calm
  have idle : ((s.modUnit n (StringUnit.settleOwn s.tables n)).unit n).due = .none := by
    rw [State.unit_modUnit_self, StringUnit.settleOwn_due, fault, waitEnd, recovery]
    rfl
  rw [State.settle_eq]
  simp only [State.takeEvent_of_due_none n _ _ idle]

/-- With none of its own steps due, settling them leaves a string alone. -/
theorem StringUnit.settleOwn_of_not_due {u : StringUnit}
    (own : u.due = { Due.none with fault := u.due.fault, waitEnd := u.due.waitEnd, recovery := u.due.recovery }) (tb : Tables) (n : StringNo) :
    u.settleOwn tb n = u := by
  obtain ⟨report, release, expiry, damp, stale, loss, lock⟩ : u.due.report = none ∧ u.due.release = none ∧ u.due.expiry = none ∧
    u.due.dampExit = false ∧ u.due.stale = none ∧ u.due.lockLoss = none ∧ u.due.lock = none := by
    rw [own]; exact ⟨rfl, rfl, rfl, rfl, rfl, rfl, rfl⟩
  unfold StringUnit.settleOwn
  dsimp only
  rw [takeReport_of_none report, takeRelease_of_none release, takeExpiry_of_none expiry, takeDampExit, if_neg (by simp [damp]),
    takeStale_of_none stale, takeLockLoss_of_none loss, takeLock_of_none lock]

/-- The fault monitor's steps only. -/
theorem State.settle_monitor {n : StringNo} {s : State}
    (own : (s.unit n).due = { Due.none with fault := (s.unit n).due.fault, waitEnd := (s.unit n).due.waitEnd,
                                            recovery := (s.unit n).due.recovery }) :
    s.settle n = ((s.takeEvent n .faultEntry).takeEvent n .faultWaitEnd).takeEvent n .recovery := by
  rw [State.settle_eq, State.modUnit_of_fixed (StringUnit.settleOwn_of_not_due own s.tables n)]

/-! ### The fault monitor's step after its work on a frame -/

/-- The step that a state's fault monitor can make due. -/
def monitorEvent : StringState → Event
  | .faultWait => .faultWaitEnd
  | .faultTest => .recovery
  | .off | .idle | .attack | .sounding | .damped | .faultLatched => .faultEntry

theorem endForced_due_none {u : StringUnit} (idle : u.due = .none) (mode : OutputMode) (stamp : Index) (cause : LiftCause) :
    (endForced mode stamp cause u).due = .none := by
  unfold endForced
  split
  · rw [endNote_due, idle]; rfl
  · simp only [StringUnit.clearContext, idle]; rfl
  all_goals exact idle

theorem faultEntryUnit_due {u : StringUnit} (only : u.due = { Due.none with fault := u.due.fault }) (r : StringRecord) :
    (faultEntryUnit r u).due = .none := by
  unfold faultEntryUnit
  split
  · next idle => rw [only, idle]; rfl
  · have taken : ({ u.due with fault := none } : Due) = .none := by rw [only]; rfl
    dsimp only
    split
    case h_1 | h_2 | h_3 | h_4 => exact endForced_due_none taken ..
    all_goals exact taken

theorem takeWaitEnd_due {u : StringUnit} (only : u.due = { Due.none with waitEnd := u.due.waitEnd }) (r : StringRecord) :
    (takeWaitEnd r u).due = .none := by
  have taken : ({ u.due with waitEnd := false } : Due) = .none := by rw [only]; rfl
  unfold takeWaitEnd
  split
  · dsimp only
    split <;> exact taken
  · next idle => rw [← taken, ← eq_false_of_ne_true idle]

theorem recoveryUnit_due {u : StringUnit} (only : u.due = { Due.none with recovery := u.due.recovery }) :
    (recoveryUnit u).due = .none := by
  have taken : ({ u.due with recovery := false } : Due) = .none := by rw [only]; rfl
  unfold recoveryUnit
  split
  · dsimp only
    split <;> exact taken
  · next idle => rw [← taken, ← eq_false_of_ne_true idle]

theorem State.takeEvent_faultEntry_of_none {n : StringNo} {s : State} (idle : (s.unit n).due.fault = none) : s.takeEvent n .faultEntry = s := by
  simp only [State.takeEvent, takeFaultEntry, idle]

theorem State.takeEvent_faultWaitEnd_of_none {n : StringNo} {s : State} (idle : (s.unit n).due.waitEnd = false) :
    s.takeEvent n .faultWaitEnd = s :=
  State.modUnit_of_fixed (by rw [takeWaitEnd, if_neg (by simp [idle])])

/-- With one of the fault monitor's steps due at most, settling is that step. -/
theorem State.settle_faultEntry {n : StringNo} {s : State} (only : (s.unit n).due = { Due.none with fault := (s.unit n).due.fault }) :
    s.settle n = s.takeEvent n .faultEntry := by
  have idle : ((s.takeEvent n .faultEntry).unit n).due = .none := by
    rw [State.unit_takeEvent, if_pos rfl]
    exact faultEntryUnit_due only _
  rw [State.settle_monitor (by rw [only]), State.takeEvent_of_due_none n _ _ idle, State.takeEvent_of_due_none n _ _ idle]

theorem State.settle_faultWaitEnd {n : StringNo} {s : State} (only : (s.unit n).due = { Due.none with waitEnd := (s.unit n).due.waitEnd }) :
    s.settle n = s.takeEvent n .faultWaitEnd := by
  have idle : ((s.takeEvent n .faultWaitEnd).unit n).due = .none := by
    rw [State.unit_takeEvent, if_pos rfl]
    exact takeWaitEnd_due only _
  rw [State.settle_monitor (by rw [only]), State.takeEvent_faultEntry_of_none (congrArg Due.fault only),
    State.takeEvent_of_due_none n _ _ idle]

theorem State.settle_recovery {n : StringNo} {s : State} (only : (s.unit n).due = { Due.none with recovery := (s.unit n).due.recovery }) :
    s.settle n = s.takeEvent n .recovery := by
  rw [State.settle_monitor (by rw [only]), State.takeEvent_faultEntry_of_none (congrArg Due.fault only),
    State.takeEvent_faultWaitEnd_of_none (by rw [only]; rfl)]

/-! ### The fault monitor's work on a frame, with the step it makes due -/

/-- A string's fault monitor on a frame (R132), and the step it makes due, taken. -/
def monitorWork (tb : Tables) (n : StringNo) (x : Int) (flag : Bool) (stamp : Index) (u : StringUnit) : StringUnit :=
  unitEvent tb n (monitorEvent u.state) (monitorSample (tb.strings.get n) x flag stamp u)

/-- The notice of that step. -/
def monitorNotice (tb : Tables) (n : StringNo) (x : Int) (flag : Bool) (stamp : Index) (u : StringUnit) : Option Notice :=
  eventNotice n (monitorEvent u.state) (monitorSample (tb.strings.get n) x flag stamp u)

theorem State.settle_monitorSample {n : StringNo} {s : State} (idle : (s.unit n).due = .none) (x : Int) (flag : Bool) (stamp : Index) :
    (s.modUnit n (monitorSample (s.record n) x flag stamp)).settle n =
      (s.modUnit n (monitorWork s.tables n x flag stamp)).offerSome (monitorNotice s.tables n x flag stamp (s.unit n)) := by
  have step : (s.modUnit n (monitorSample (s.record n) x flag stamp)).settle n =
      (s.modUnit n (monitorSample (s.record n) x flag stamp)).takeEvent n (monitorEvent (s.unit n).state) := by
    cases state : (s.unit n).state with
    | off | faultLatched | idle | attack | sounding | damped =>
      refine State.settle_faultEntry ?_
      rw [State.unit_modUnit_self]
      simp only [monitorSample, state, idle]
    | faultWait =>
      refine State.settle_faultWaitEnd ?_
      rw [State.unit_modUnit_self]
      simp only [monitorSample, state, countWait, idle]
    | faultTest =>
      refine State.settle_recovery ?_
      rw [State.unit_modUnit_self]
      simp only [monitorSample, state, judgeTest]
      split
      · simp only [idle]
      · simp only [idle]
  rw [step, State.takeEvent_eq, State.unit_modUnit_self]
  simp only [State.modUnit, State.setUnit_setUnit]
  rfl

end Sys2Proof.Machine
end

section
/-! The canonical order of a frame's work, string by string: the envelope units and trackers, then the fault monitors. -/

namespace Sys2Proof.Machine

/-- Over a list without repetition, two steps agree that agree where an entry is fresh, when the step taken at one entry leaves the others fresh. -/
theorem foldl_congr_of_fresh {α β : Type} {Fresh : β → α → Prop} {f g : β → α → β} (same : ∀ b a, Fresh b a → f b a = g b a)
    (kept : ∀ b a c, c ≠ a → Fresh b a → Fresh b c → Fresh (g b a) c) {l : List α} (apart : l.Nodup) {b : β} (fresh : ∀ a ∈ l, Fresh b a) :
    l.foldl f b = l.foldl g b := by
  induction l generalizing b with
  | nil => rfl
  | cons a l ih =>
    obtain ⟨absent, apart⟩ := List.nodup_cons.mp apart
    have first := fresh a List.mem_cons_self
    rw [List.foldl_cons, List.foldl_cons, same b a first]
    exact ih apart fun c mem => kept b a c (fun e => absent (e ▸ mem)) first (fresh c (List.mem_cons_of_mem a mem))

theorem Six.get_set_of_ne {α : Type} {x : Six α} {n m : StringNo} (other : m ≠ n) (v : α) : (x.set n v).get m = x.get m := by
  rw [Six.get_set, if_neg other]

/-! ### The envelope units and the trackers -/

/-- A string's envelope unit and tracker on a frame (R15, R40), each followed by the steps it made due. -/
def stringWork (tb : Tables) (n : StringNo) (y : Int) (stamp : Index) (u : StringUnit) : StringUnit :=
  (trackerSample tb n y stamp ((envelopeSample (tb.strings.get n) y stamp u).settleOwn tb n)).settleOwn tb n

theorem OwnWork.stringWork (tb : Tables) (n : StringNo) (y : Int) (stamp : Index) (u : StringUnit) : OwnWork u (stringWork tb n y stamp u) :=
  (OwnWork.envelopeSample _ _ _ _).trans <| (OwnWork.settleOwn _ _ _).trans <| (OwnWork.trackerSample _ _ _ _ _).trans (OwnWork.settleOwn _ _ _)

theorem StringUnit.settleOwn_due_none {u : StringUnit} (calm : u.due.faults = Due.none.faults) (tb : Tables) (n : StringNo) :
    (u.settleOwn tb n).due = .none := by
  obtain ⟨fault, waitEnd, recovery⟩ : u.due.fault = none ∧ u.due.waitEnd = false ∧ u.due.recovery = false := by
    simpa [Due.faults, Due.none] using calm
  rw [settleOwn_due, fault, waitEnd, recovery]
  rfl

theorem stringWork_due {u : StringUnit} (idle : u.due = .none) (tb : Tables) (n : StringNo) (y : Int) (stamp : Index) :
    (stringWork tb n y stamp u).due = .none := by
  refine StringUnit.settleOwn_due_none ?_ tb n
  rw [(OwnWork.trackerSample ..).faults, (OwnWork.settleOwn ..).faults, (OwnWork.envelopeSample ..).faults, idle]

/-- A frame that string `n`'s envelope unit and tracker have taken. -/
def Work.sampled (w : Work) (n : StringNo) : Work :=
  { w with enveloped := w.enveloped.set n true, tracked := w.tracked.set n true }

/-- String `n`'s envelope unit and tracker have yet to take the frame. -/
structure SampleFresh (tb : Tables) (y : Six Int) (stamp : Index) (ws : Work × State) (n : StringNo) : Prop where
  tables : ws.2.tables = tb
  cancelled : ws.1.y = some y
  index : ws.1.index = stamp
  enveloped : ws.1.enveloped.get n = false
  tracked : ws.1.tracked.get n = false
  idle : (ws.2.unit n).due = .none

theorem SampleFresh.acts {tb : Tables} {y : Six Int} {stamp : Index} {ws : Work × State} {n : StringNo} (h : SampleFresh tb y stamp ws n) :
    [.envelope n, .settle n, .tracker n, .settle n].foldl runAct ws =
      (ws.1.sampled n, ws.2.modUnit n (stringWork tb n (y.get n) stamp)) := by
  obtain ⟨w, s⟩ := ws
  obtain ⟨tables, cancelled, index, enveloped, tracked, idle⟩ := h
  dsimp only at tables cancelled index enveloped tracked idle ⊢
  subst tables index
  have taken : { w with y := some y } = w := by rw [← cancelled]
  have envelope : runAct (w, s) (.envelope n) =
      ({ w with enveloped := w.enveloped.set n true }, s.modUnit n (envelopeSample (s.record n) (y.get n) w.index)) := by
    simp only [runAct, enveloped, Work.cancelled, cancelled]
    rfl
  have settle : ∀ (v : Work) (t : State), runAct (v, t) (.settle n) = (v, t.settle n) := fun _ _ => rfl
  have tracker : ∀ t : State, runAct ({ w with enveloped := w.enveloped.set n true }, t) (.tracker n) =
      (w.sampled n, t.modUnit n (trackerSample t.tables n (y.get n) w.index)) := fun t => by
    simp only [runAct, tracked, Work.cancelled, cancelled, Work.sampled]
    rfl
  simp only [List.foldl_cons, List.foldl_nil, envelope, settle, tracker]
  have calm_envelope : ((s.modUnit n (envelopeSample (s.record n) (y.get n) w.index)).unit n).due.faults = Due.none.faults := by
    rw [State.unit_modUnit_self, (OwnWork.envelopeSample ..).faults, idle]
  rw [State.settle_own calm_envelope, State.modUnit_modUnit, State.modUnit_modUnit]
  rw [State.settle_own, State.modUnit_modUnit]
  · rfl
  · rw [State.unit_modUnit_self, (OwnWork.trackerSample ..).faults, (OwnWork.settleOwn ..).faults, (OwnWork.envelopeSample ..).faults, idle]

theorem foldl_sampleActs {tb : Tables} {y : Six Int} {stamp : Index} {ws : Work × State} (fresh : ∀ n, SampleFresh tb y stamp ws n) :
    (StringNo.all.flatMap fun n => [.envelope n, .settle n, .tracker n, .settle n]).foldl runAct ws =
      (StringNo.all.foldl Work.sampled ws.1,
        { ws.2 with units := Six.ofFn fun n => stringWork tb n (y.get n) stamp (ws.2.unit n) }) := by
  rw [List.foldl_flatMap]
  rw [foldl_congr_of_fresh (Fresh := SampleFresh tb y stamp)
    (g := fun ws n => (ws.1.sampled n, ws.2.modUnit n (stringWork tb n (y.get n) stamp)))
    (fun ws n h => h.acts) ?_ (by decide) fun n _ => fresh n]
  · rfl
  · intro ws n m other _ h
    exact ⟨h.tables, h.cancelled, h.index, (Six.get_set_of_ne other true).trans h.enveloped,
      (Six.get_set_of_ne other true).trans h.tracked, by rw [State.unit_modUnit, if_neg other]; exact h.idle⟩

/-! ### The fault monitors -/

/-- A frame that string `n`'s fault monitor has taken. -/
def Work.judged (w : Work) (n : StringNo) : Work := { w with monitored := w.monitored.set n true }

/-- String `n`'s fault monitor has yet to take the frame. -/
structure MonitorFresh (tb : Tables) (w : Work) (ws : Work × State) (n : StringNo) : Prop where
  tables : ws.2.tables = tb
  raw : ws.1.raw = w.raw
  flags : ws.1.flags = w.flags
  index : ws.1.index = w.index
  monitored : ws.1.monitored.get n = false
  idle : (ws.2.unit n).due = .none

/-- String `n`'s fault monitor takes the frame, and its notice is offered. -/
def monitorTakes (tb : Tables) (w : Work) (n : StringNo) (s : State) : State :=
  (s.modUnit n (monitorWork tb n (w.raw.get n) (w.flags.get n) w.index)).offerSome
    (monitorNotice tb n (w.raw.get n) (w.flags.get n) w.index (s.unit n))

@[simp] theorem State.offerSome_tables (s : State) (x : Option Notice) : (s.offerSome x).tables = s.tables := by
  cases x <;> simp

theorem MonitorFresh.acts {tb : Tables} {w : Work} {ws : Work × State} {n : StringNo} (h : MonitorFresh tb w ws n) :
    [.monitor n, .settle n].foldl runAct ws = (ws.1.judged n, monitorTakes tb w n ws.2) := by
  obtain ⟨v, s⟩ := ws
  obtain ⟨tables, raw, flags, index, monitored, idle⟩ := h
  dsimp only at tables raw flags index monitored idle ⊢
  subst tables
  have monitor : runAct (v, s) (.monitor n) =
      (v.judged n, s.modUnit n (monitorSample (s.record n) (w.raw.get n) (w.flags.get n) w.index)) := by
    simp only [runAct, monitored, raw, flags, index, Work.judged]
    rfl
  simp only [List.foldl_cons, List.foldl_nil, monitor]
  exact congrArg (Prod.mk _) (State.settle_monitorSample idle _ _ _)

section
variable (g : StringNo → StringUnit → StringUnit) (x : StringNo → StringUnit → Option Notice)

theorem foldl_modUnit_offerNotice (l : List StringNo) (s : State) (notice : Notice) :
    l.foldl (fun s n => s.modUnit n (g n)) (s.offerNotice notice) = (l.foldl (fun s n => s.modUnit n (g n)) s).offerNotice notice := by
  induction l generalizing s with
  | nil => rfl
  | cons n l ih =>
    rw [List.foldl_cons, List.foldl_cons, ← ih]
    simp only [State.modUnit, State.unit_offerNotice, State.setUnit_offerNotice]

/-- Notices offered while the units are written, offered after all of them. -/
theorem foldl_offerSome {l : List StringNo} (apart : l.Nodup) (s : State) :
    l.foldl (fun s n => (s.modUnit n (g n)).offerSome (x n (s.unit n))) s =
      (l.filterMap fun n => x n (s.unit n)).foldl State.offerNotice (l.foldl (fun s n => s.modUnit n (g n)) s) := by
  induction l generalizing s with
  | nil => rfl
  | cons n l ih =>
    obtain ⟨absent, apart⟩ := List.nodup_cons.mp apart
    have units : ∀ m ∈ l, ((s.modUnit n (g n)).offerSome (x n (s.unit n))).unit m = s.unit m := fun m mem => by
      have other : m ≠ n := fun e => absent (e ▸ mem)
      rw [State.unit_offerSome, State.unit_modUnit, if_neg other]
    rw [List.foldl_cons, List.foldl_cons, ih apart, List.filterMap_congr fun m mem => by rw [units m mem], List.filterMap_cons]
    cases x n (s.unit n) with
    | none => rfl
    | some notice => rw [State.offerSome_some, foldl_modUnit_offerNotice]; rfl

end

theorem foldl_monitorActs {tb : Tables} {ws : Work × State} (tables : ws.2.tables = tb)
    (fresh : ∀ n, ws.1.monitored.get n = false) (idle : ∀ n, (ws.2.unit n).due = .none) :
    (StringNo.all.flatMap fun n => [.monitor n, .settle n]).foldl runAct ws =
      (StringNo.all.foldl Work.judged ws.1,
        (StringNo.all.filterMap fun n => monitorNotice tb n (ws.1.raw.get n) (ws.1.flags.get n) ws.1.index (ws.2.unit n)).foldl State.offerNotice
          { ws.2 with units := Six.ofFn fun n => monitorWork tb n (ws.1.raw.get n) (ws.1.flags.get n) ws.1.index (ws.2.unit n) }) := by
  rw [List.foldl_flatMap, foldl_congr_of_fresh (Fresh := MonitorFresh tb ws.1)
    (g := fun vt n => (vt.1.judged n, monitorTakes tb ws.1 n vt.2)) (fun ws n h => h.acts) ?_ (by decide)
    fun n _ => ⟨tables, rfl, rfl, rfl, fresh n, idle n⟩]
  · have split : StringNo.all.foldl (fun vt n => (vt.1.judged n, monitorTakes tb ws.1 n vt.2)) ws =
        (StringNo.all.foldl Work.judged ws.1, StringNo.all.foldl (fun s n => monitorTakes tb ws.1 n s) ws.2) := rfl
    rw [split]
    exact congrArg (Prod.mk _) (foldl_offerSome _ _ (by decide) _)
  · intro vt n m other _ h
    refine ⟨?_, h.raw, h.flags, h.index, (Six.get_set_of_ne other true).trans h.monitored, ?_⟩
    · rw [monitorTakes, State.offerSome_tables]; exact h.tables
    · rw [monitorTakes, State.unit_offerSome, State.unit_modUnit, if_neg other]; exact h.idle

end Sys2Proof.Machine
end

section
/-! An accepted frame in the canonical order, as a whole: the side byte and the return frame, the record for the store, every string's
work, and the notices. -/

namespace Sys2Proof.Machine

/-! ### The acts of the canonical order -/

/-- Every string's work on a frame. -/
def framedUnit (tb : Tables) (raw y : Six Int) (flags : Six Bool) (stamp : Index) (n : StringNo) (u : StringUnit) : StringUnit :=
  monitorWork tb n (raw.get n) (flags.get n) stamp (stringWork tb n (y.get n) stamp u)

/-- The notice of a string's fault monitor on a frame. -/
def framedNotice (tb : Tables) (raw y : Six Int) (flags : Six Bool) (stamp : Index) (n : StringNo) (u : StringUnit) : Option Notice :=
  monitorNotice tb n (raw.get n) (flags.get n) stamp (stringWork tb n (y.get n) stamp u)

/-- What the canonical order makes of the part once the record has gone to the store. -/
def State.framed (raw y : Six Int) (flags : Six Bool) (stamp : Index) (s : State) : State :=
  { (StringNo.all.filterMap fun n => framedNotice s.tables raw y flags stamp n (s.unit n)).foldl State.offerNotice
      { s with units := Six.ofFn fun n => framedUnit s.tables raw y flags stamp n (s.unit n) } with inProcess := none }

theorem frameActs_canonical : frameActs {} =
    ([.cancel, .store] ++ StringNo.all.flatMap fun n => [.envelope n, .settle n, .tracker n, .settle n]) ++
      StringNo.all.flatMap fun n => [.monitor n, .settle n] := rfl

theorem State.runFrame_canonical {s : State} (idle : s.NothingDue) (bits : FrameBits) (stamp : Index) :
    let raw := Six.ofFn (frameSample bits)
    let y := cancel s.tables.matrix s.states raw
    s.runFrame (Work.start bits stamp) (frameActs {}) =
      (s.offerRecord (s.frameRecord raw y stamp)).framed raw y (Six.ofFn (frameFlag bits)) stamp := by
  intro raw y
  have formed : [FrameAct.cancel, .store].foldl runAct (Work.start bits stamp, s) =
      ({ Work.start bits stamp with y := some y, offered := true }, s.offerRecord (s.frameRecord raw y stamp)) := rfl
  generalize left : s.offerRecord (s.frameRecord raw y stamp) = v at formed
  have calm : v.NothingDue := fun n => by
    rw [← left, State.unit, State.offerRecord_units]
    exact idle n
  unfold State.runFrame
  rw [frameActs_canonical, List.foldl_append, List.foldl_append, formed,
    foldl_sampleActs (tb := v.tables) (y := y) (stamp := stamp)
      fun n => ⟨rfl, rfl, rfl, Six.get_same false n, Six.get_same false n, calm n⟩,
    foldl_monitorActs (tb := v.tables) rfl (fun n => Six.get_same false n) fun n => by
      rw [State.unit, Six.get_ofFn]
      exact stringWork_due (calm n) ..]
  have unit : ∀ (f : StringNo → StringUnit) (n : StringNo), ({ v with units := Six.ofFn f } : State).unit n = f n := fun f n => Six.get_ofFn f n
  simp only [unit]
  rfl

end Sys2Proof.Machine
end

section
/-! What comes before the work on an accepted frame, and the store and the notice queue after it. -/

namespace Sys2Proof.Machine

/-! ### The side byte and the return frame -/

theorem State.offerDown_link_kept (m : List Byte) (s : State) :
    (s.offerDown m).link.dropSlips = s.link.dropSlips ∧ (s.offerDown m).link.noticesLost = s.link.noticesLost := by
  unfold State.offerDown
  split <;> exact ⟨rfl, rfl⟩

theorem State.converterMessage_link_kept (m : List Byte) (s : State) :
    (s.converterMessage m).link.dropSlips = s.link.dropSlips ∧ (s.converterMessage m).link.noticesLost = s.link.noticesLost := by
  by_cases long : 64 < m.length
  · rw [State.converterMessage, State.checkMessage, if_pos long]
    exact ⟨rfl, rfl⟩
  by_cases short : m.length ≤ 3
  · rw [State.converterMessage_short short]
    exact ⟨rfl, rfl⟩
  cases good : crcGood m with
  | false =>
    rw [State.converterMessage_bad (by omega) (by omega) good]
    exact ⟨rfl, rfl⟩
  | true =>
    rw [State.converterMessage_good (by omega) (by omega) good]
    exact s.offerDown_link_kept m

theorem State.pickupSideByte_link_kept (tag : Tag) (b : Byte) (s : State) :
    (s.pickupSideByte tag b).link.dropSlips = s.link.dropSlips ∧ (s.pickupSideByte tag b).link.noticesLost = s.link.noticesLost := by
  cases taken : takeSideByte tag b s.pickup.side with
  | mk side event =>
    cases event with
    | none => rw [State.pickupSideByte_quiet taken]; exact ⟨rfl, rfl⟩
    | abort => rw [State.pickupSideByte_abort taken]; exact ⟨rfl, rfl⟩
    | long => rw [State.pickupSideByte_long taken]; exact ⟨rfl, rfl⟩
    | complete m =>
      rw [State.pickupSideByte_complete taken]
      exact State.converterMessage_link_kept m _

/-- What the blocks of a string, the store and the notice queue read: all that the side byte and the return frame leave alone. -/
structure SameCore (s t : State) : Prop where
  tables : t.tables = s.tables
  units : t.units = s.units
  store : t.store = s.store
  tx : t.tx = s.tx
  dropSlips : t.link.dropSlips = s.link.dropSlips
  noticesLost : t.link.noticesLost = s.link.noticesLost

theorem SameCore.trans {s t u : State} (a : SameCore s t) (b : SameCore t u) : SameCore s u :=
  ⟨b.tables.trans a.tables, b.units.trans a.units, b.store.trans a.store, b.tx.trans a.tx, b.dropSlips.trans a.dropSlips,
    b.noticesLost.trans a.noticesLost⟩

theorem SameCore.sideByte (tag : Tag) (b : Byte) (s : State) : SameCore s (s.pickupSideByte tag b) := by
  obtain ⟨slips, lost⟩ := s.pickupSideByte_link_kept tag b
  obtain ⟨side, link, down, e⟩ := s.pickupSideByte_shape tag b
  rw [e] at slips lost ⊢
  exact ⟨rfl, rfl, rfl, rfl, slips, lost⟩

theorem SameCore.returnFrame (s : State) : SameCore s s.sendReturnFrame := by
  obtain ⟨ret, out, e | ⟨m, rest, -, e⟩⟩ := s.sendReturnFrame_cases <;> rw [e] <;> exact ⟨rfl, rfl, rfl, rfl, rfl, rfl⟩

/-- A part with the state of an accepted frame's side byte and return frame. -/
def State.beforeBlocks (bits : FrameBits) (s : State) : State :=
  (State.pickupSideByte (pickupTag bits) (pickupSide bits) { s.judgedBy (some bits) with index := s.index + 1 }).sendReturnFrame

theorem SameCore.beforeBlocks (bits : FrameBits) (s : State) : SameCore s (s.beforeBlocks bits) := by
  refine SameCore.trans ?_ ((SameCore.sideByte ..).trans (SameCore.returnFrame _))
  exact ⟨rfl, rfl, rfl, rfl, rfl, rfl⟩

theorem State.pickupFrame_canonical {s : State} {bits : FrameBits} (sync : s.pickup.receiver.state = .sync) (few : s.pickup.receiver.bad ≤ 2)
    (good : goodSync bits = true) (free : s.inProcess = none) (idle : s.NothingDue) :
    s.pickupFrame (some bits) {} = (s.beforeBlocks bits).runFrame (Work.start bits (s.index + 1)) (frameActs {}) := by
  have taken : (s.pickup.receiver.judge (frameGood (some bits))).2 = true := by rw [Receiver.judge_good sync (by exact good)]
  rw [State.pickupFrame_accepted sync few taken free, State.settleBut_idle fun m => .inr (idle m),
    State.settleAll, State.settleBut_idle fun m => .inr (by exact idle m)]
  rfl

/-! ### Notices -/

/-- What decides the notice queue: the notice mask, the queue and its counter. -/
def State.noticeView (s : State) : DeviceRecord × List Notice × Nat := (s.tables.device, s.tx.notices, s.link.noticesLost)

theorem State.noticeView_offerNotice {s t : State} (same : s.noticeView = t.noticeView) (x : Notice) :
    (s.offerNotice x).noticeView = (t.offerNotice x).noticeView := by
  simp only [State.noticeView, Prod.mk.injEq] at same
  obtain ⟨device, notices, lost⟩ := same
  by_cases enabled : t.tables.device.enables x = true
  · by_cases room : t.tx.notices.length ≤ 7
    · rw [State.offerNotice_joins enabled room, State.offerNotice_joins (by rw [device]; exact enabled) (by rw [notices]; exact room)]
      simp only [State.noticeView, device, notices, lost]
    · have full : 8 ≤ t.tx.notices.length := by omega
      rw [State.offerNotice_lost enabled full, State.offerNotice_lost (by rw [device]; exact enabled) (by rw [notices]; exact full)]
      simp only [State.noticeView, device, notices, lost]
  · have masked := eq_false_of_ne_true enabled
    rw [State.offerNotice_masked masked, State.offerNotice_masked (by rw [device]; exact masked)]
    simp only [State.noticeView, device, notices, lost]

theorem State.noticeView_foldl {s t : State} (same : s.noticeView = t.noticeView) (l : List Notice) :
    (l.foldl State.offerNotice s).noticeView = (l.foldl State.offerNotice t).noticeView := by
  induction l generalizing s t with
  | nil => exact same
  | cons x l ih => exact ih (State.noticeView_offerNotice same x)

/-- What offering a notice keeps, offering several keeps. -/
theorem State.foldl_offerNotice_keeps {α : Type} {f : State → α} (keeps : ∀ s x, f (s.offerNotice x) = f s) (l : List Notice) (s : State) :
    f (l.foldl State.offerNotice s) = f s := by
  induction l generalizing s with
  | nil => rfl
  | cons x l ih => exact (ih _).trans (keeps s x)

theorem State.offerNotice_dropSlips (s : State) (x : Notice) : (s.offerNotice x).link.dropSlips = s.link.dropSlips := by
  rcases s.offerNotice_cases x with ⟨-, e⟩ | ⟨-, -, e⟩ | ⟨-, -, e⟩ <;> rw [e]

/-! ### The whole frame -/

section
variable {raw y : Six Int} {flags : Six Bool} {stamp : Index}

theorem State.framed_unit (s : State) (n : StringNo) :
    (s.framed raw y flags stamp).unit n = framedUnit s.tables raw y flags stamp n (s.unit n) := by
  have units := State.foldl_offerNotice_keeps (f := State.units) State.offerNotice_units
    (StringNo.all.filterMap fun n => framedNotice s.tables raw y flags stamp n (s.unit n))
    { s with units := Six.ofFn fun n => framedUnit s.tables raw y flags stamp n (s.unit n) }
  exact (congrArg (·.get n) units).trans (Six.get_ofFn _ n)

theorem State.framed_store (s : State) : (s.framed raw y flags stamp).store = s.store :=
  State.foldl_offerNotice_keeps (f := State.store) State.offerNotice_store _ _

theorem State.framed_dropSlips (s : State) : (s.framed raw y flags stamp).link.dropSlips = s.link.dropSlips :=
  State.foldl_offerNotice_keeps (f := fun s => s.link.dropSlips) State.offerNotice_dropSlips _ _

/-- The record and its DROP slip (R150, R154). -/
theorem State.offerRecord_slips (record : FrameRecord) (s : State) :
    (s.offerRecord record).link.dropSlips = (if (s.store.accept record).2 = none then s.link.dropSlips else bump s.link.dropSlips) ∧
    (s.offerRecord record).noticeView = ((((s.store.accept record).2.map (Notice.slip .drop)).toList).foldl State.offerNotice s).noticeView := by
  rcases s.offerRecord_cases record with ⟨stays, e⟩ | ⟨frames, slips, e⟩
  · rw [e, stays]
    exact ⟨rfl, rfl⟩
  · rw [e, slips]
    exact ⟨State.offerNotice_dropSlips _ _, State.noticeView_offerNotice (by rfl) _⟩

theorem State.framed_offers (s : State) : (s.framed raw y flags stamp).noticeView =
    ((StringNo.all.filterMap fun n => framedNotice s.tables raw y flags stamp n (s.unit n)).foldl State.offerNotice s).noticeView :=
  State.noticeView_foldl (by rfl) _

/-- The slip's notice, then the strings' notices, as if offered to the part before the frame. -/
theorem State.framed_noticeView (record : FrameRecord) {s t : State} (same : s.noticeView = t.noticeView) (store : s.store = t.store) :
    ((s.offerRecord record).framed raw y flags stamp).noticeView =
      ((((t.store.accept record).2.map (Notice.slip .drop)).toList ++
        StringNo.all.filterMap fun n => framedNotice s.tables raw y flags stamp n (s.unit n)).foldl State.offerNotice t).noticeView := by
  have slips := (s.offerRecord_slips record).2
  rw [store] at slips
  have units : ∀ n, (s.offerRecord record).unit n = s.unit n := fun n => by rw [State.unit, State.offerRecord_units]; rfl
  rw [List.foldl_append, State.framed_offers]
  simp only [units, State.offerRecord_tables]
  exact State.noticeView_foldl (slips.trans (State.noticeView_foldl same _)) _

end

end Sys2Proof.Machine
end

section
/-! What an accepted frame in the canonical order makes of each string (O42). -/

namespace Sys2Proof.Machine

section
variable {tb : Tables} {n : StringNo} {x : Int} {flag : Bool} {stamp : Index} {u : StringUnit}

theorem active_or_left (state : StringState) : state.active ∨ state = .off ∨ state.faulted = true := by
  cases state
  case idle => exact .inl (.inl rfl)
  case attack => exact .inl (.inr (.inl rfl))
  case sounding => exact .inl (.inr (.inr (.inl rfl)))
  case damped => exact .inl (.inr (.inr (.inr rfl)))
  case off => exact .inr (.inl rfl)
  all_goals exact .inr (.inr rfl)

/-! ### The monitor's sample and its step, by the string's state -/

section
variable {r : StringRecord}

theorem monitorSample_active (active : u.state.active) : monitorSample r x flag stamp u =
    { u with
      monitor := updateRuns r x flag u.monitor
      due := { u.due with fault := (conditionPresent r (updateRuns r x flag u.monitor)).map fun c => (c, stamp) } } := by
  rcases active with state | state | state | state <;> simp only [monitorSample, state]

theorem monitorSample_off (off : u.state = .off) : monitorSample r x flag stamp u = u := by simp only [monitorSample, off]

theorem monitorSample_latched (latched : u.state = .faultLatched) :
    monitorSample r x flag stamp u = { u with monitor := updateRuns r x flag u.monitor } := by
  simp only [monitorSample, latched]

theorem monitorSample_wait (waits : u.state = .faultWait) : monitorSample r x flag stamp u =
    { u with
      monitor := { updateRuns r x flag u.monitor with wait := u.monitor.wait - 1 }
      due := { u.due with waitEnd := decide (u.monitor.wait ≤ 1) } } := by
  rw [← decide_pred_eq_zero]
  simp only [monitorSample, waits]
  rfl

theorem monitorSample_test_fails (tests : u.state = .faultTest) {cause : Cause}
    (present : conditionPresent r (updateRuns r x flag u.monitor) = some cause) : monitorSample r x flag stamp u =
    { u with
      state := .faultWait
      monitor := { updateRuns r x flag u.monitor with
        wait := 1024 * r.faultWait, test := 0, cause := some cause, retries := bump8 u.monitor.retries }
      counters := { u.counters with retries := bump u.counters.retries } } := by
  simp only [monitorSample, tests, judgeTest, present]
  rfl

theorem monitorSample_test (tests : u.state = .faultTest)
    (absent : conditionPresent r (updateRuns r x flag u.monitor) = none) : monitorSample r x flag stamp u =
    { u with
      monitor := { updateRuns r x flag u.monitor with test := u.monitor.test - 1 }
      due := { u.due with recovery := decide (u.monitor.test ≤ 1) } } := by
  rw [← decide_pred_eq_zero]
  simp only [monitorSample, tests, judgeTest, absent]
  rfl

theorem faultEntryUnit_of_none (idle : u.due.fault = none) : faultEntryUnit r u = u := by
  simp only [faultEntryUnit, idle]

theorem takeWaitEnd_of_not_due (idle : u.due.waitEnd = false) : takeWaitEnd r u = u := if_neg (by rw [idle]; exact Bool.false_ne_true)

theorem takeWaitEnd_taken (due : u.due.waitEnd = true) (waits : u.state = .faultWait) (elapsed : u.monitor.wait = 0) :
    takeWaitEnd r u =
      { u with state := .faultTest, monitor := { u.monitor with test := 256 * r.faultTest }, due := { u.due with waitEnd := false } } :=
  (if_pos due).trans (if_pos ⟨waits, elapsed⟩)

theorem recoveryUnit_of_not_due (idle : u.due.recovery = false) : recoveryUnit u = u := if_neg (by rw [idle]; exact Bool.false_ne_true)

theorem recoveryUnit_taken (due : u.due.recovery = true) (tests : u.state = .faultTest) (elapsed : u.monitor.test = 0) :
    recoveryUnit u = recoverString { u with due := { u.due with recovery := false } } :=
  (if_pos due).trans (if_pos ⟨tests, elapsed⟩)

end

theorem monitorWork_entry (entry : monitorEvent u.state = .faultEntry) :
    monitorWork tb n x flag stamp u = faultEntryUnit (tb.strings.get n) (monitorSample (tb.strings.get n) x flag stamp u) := by
  rw [monitorWork, entry]; rfl

theorem monitorEvent_active (active : u.state.active) : monitorEvent u.state = .faultEntry := by
  rcases active with state | state | state | state <;> rw [state] <;> rfl

theorem monitorWork_waitEnd (waits : u.state = .faultWait) :
    monitorWork tb n x flag stamp u = takeWaitEnd (tb.strings.get n) (monitorSample (tb.strings.get n) x flag stamp u) := by
  rw [monitorWork, waits]; rfl

theorem monitorWork_recovery (tests : u.state = .faultTest) :
    monitorWork tb n x flag stamp u = recoveryUnit (monitorSample (tb.strings.get n) x flag stamp u) := by
  rw [monitorWork, tests]; rfl

/-! ### The work of an idle monitor: nothing due before -/

section
variable (idle : u.due = .none)
include idle

theorem monitorWork_active
    (absent : conditionPresent (tb.strings.get n) (updateRuns (tb.strings.get n) x flag u.monitor) = none) (active : u.state.active) :
    monitorWork tb n x flag stamp u = { u with monitor := updateRuns (tb.strings.get n) x flag u.monitor } := by
  rw [monitorWork_entry (monitorEvent_active active), monitorSample_active active, absent, faultEntryUnit_of_none (by rfl)]
  rw [idle]
  rfl

theorem monitorWork_active_fault {cause : Cause} (active : u.state.active)
    (present : conditionPresent (tb.strings.get n) (updateRuns (tb.strings.get n) x flag u.monitor) = some cause) :
    monitorWork tb n x flag stamp u =
      enterFault (tb.strings.get n) cause stamp { u with monitor := updateRuns (tb.strings.get n) x flag u.monitor } := by
  rw [monitorWork_entry (monitorEvent_active active), monitorSample_active active, present,
    faultEntryUnit_taken (cause := cause) (stamp := stamp) (by rfl) (by exact active)]
  rw [idle]
  rfl

theorem monitorWork_off (off : u.state = .off) : monitorWork tb n x flag stamp u = u := by
  rw [monitorWork_entry (by rw [off]; rfl), monitorSample_off off, faultEntryUnit_of_none (congrArg Due.fault idle)]

theorem monitorWork_latched (latched : u.state = .faultLatched) :
    monitorWork tb n x flag stamp u = { u with monitor := updateRuns (tb.strings.get n) x flag u.monitor } := by
  rw [monitorWork_entry (by rw [latched]; rfl), monitorSample_latched latched]
  exact faultEntryUnit_of_none (congrArg Due.fault idle)

theorem monitorWork_waits (waits : u.state = .faultWait) (running : 2 ≤ u.monitor.wait) :
    monitorWork tb n x flag stamp u =
      { u with monitor := { updateRuns (tb.strings.get n) x flag u.monitor with wait := u.monitor.wait - 1 } } := by
  have counted : decide (u.monitor.wait ≤ 1) = false := decide_eq_false (by omega)
  rw [monitorWork_waitEnd waits, monitorSample_wait waits, counted, takeWaitEnd_of_not_due (by rfl), idle]
  rfl

theorem monitorWork_wait_ends (waits : u.state = .faultWait) (ends : u.monitor.wait ≤ 1) :
    monitorWork tb n x flag stamp u =
      { u with
        state := .faultTest
        monitor := { updateRuns (tb.strings.get n) x flag u.monitor with wait := 0, test := 256 * (tb.strings.get n).faultTest } } := by
  have counted : u.monitor.wait - 1 = 0 := by omega
  rw [monitorWork_waitEnd waits, monitorSample_wait waits, decide_eq_true ends, counted, takeWaitEnd_taken (by rfl) (by exact waits) (by rfl), idle]
  rfl

theorem monitorWork_test_fails (tests : u.state = .faultTest) {cause : Cause}
    (present : conditionPresent (tb.strings.get n) (updateRuns (tb.strings.get n) x flag u.monitor) = some cause) :
    monitorWork tb n x flag stamp u =
      { u with
        state := .faultWait
        monitor := { updateRuns (tb.strings.get n) x flag u.monitor with
          wait := 1024 * (tb.strings.get n).faultWait, test := 0, cause := some cause, retries := bump8 u.monitor.retries }
        counters := { u.counters with retries := bump u.counters.retries } } := by
  rw [monitorWork_recovery tests, monitorSample_test_fails tests present]
  exact recoveryUnit_of_not_due (congrArg Due.recovery idle)

theorem monitorWork_tests (tests : u.state = .faultTest)
    (absent : conditionPresent (tb.strings.get n) (updateRuns (tb.strings.get n) x flag u.monitor) = none) (running : 2 ≤ u.monitor.test) :
    monitorWork tb n x flag stamp u =
      { u with monitor := { updateRuns (tb.strings.get n) x flag u.monitor with test := u.monitor.test - 1 } } := by
  have counted : decide (u.monitor.test ≤ 1) = false := decide_eq_false (by omega)
  rw [monitorWork_recovery tests, monitorSample_test tests absent, counted, recoveryUnit_of_not_due (by rfl), idle]
  rfl

theorem monitorWork_recovers (tests : u.state = .faultTest)
    (absent : conditionPresent (tb.strings.get n) (updateRuns (tb.strings.get n) x flag u.monitor) = none) (ends : u.monitor.test ≤ 1) :
    monitorWork tb n x flag stamp u =
      { u with
        state := .idle, env := .zero, damp := 0, tracker := .fresh .stopped
        monitor := { updateRuns (tb.strings.get n) x flag u.monitor with cause := none, wait := 0, test := 0 } } := by
  have counted : u.monitor.test - 1 = 0 := by omega
  rw [monitorWork_recovery tests, monitorSample_test tests absent, decide_eq_true ends, counted,
    recoveryUnit_taken (by rfl) (by exact tests) (by rfl), idle]
  rfl

end

theorem not_active_of_left {state : StringState} (left : state = .off ∨ state.faulted = true) : ¬ state.active := by
  rintro (rfl | rfl | rfl | rfl) <;> rcases left with off | faulted <;> contradiction

theorem monitorWork_due (idle : u.due = .none) : (monitorWork tb n x flag stamp u).due = .none := by
  cases state : u.state with
  | faultWait =>
    rw [monitorWork_waitEnd state, monitorSample_wait state]
    exact takeWaitEnd_due (by rw [idle]) _
  | faultTest =>
    rw [monitorWork_recovery state]
    cases present : conditionPresent (tb.strings.get n) (updateRuns (tb.strings.get n) x flag u.monitor) with
    | some cause =>
      rw [monitorSample_test_fails state present]
      exact recoveryUnit_due (by rw [idle])
    | none =>
      rw [monitorSample_test state present]
      exact recoveryUnit_due (by rw [idle])
  | off =>
    rw [monitorWork_off idle state, idle]
  | faultLatched => rw [monitorWork_latched idle state, idle]
  | idle | attack | sounding | damped =>
    have active : u.state.active := by rw [state]; simp [StringState.active]
    rw [monitorWork_entry (monitorEvent_active active), monitorSample_active active]
    exact faultEntryUnit_due (by rw [idle]) _

/-! ### The notice of the monitor's step -/

theorem monitorNotice_active (active : u.state.active) : monitorNotice tb n x flag stamp u =
    (conditionPresent (tb.strings.get n) (updateRuns (tb.strings.get n) x flag u.monitor)).map (Notice.fault n) := by
  rw [monitorNotice, monitorEvent_active active, monitorSample_active active]
  cases conditionPresent (tb.strings.get n) (updateRuns (tb.strings.get n) x flag u.monitor) with
  | none => rcases active with state | state | state | state <;> simp only [eventNotice, state, Option.map_none]
  | some cause => exact eventNotice_faultEntry_taken (by rfl) active

theorem eventNotice_recovery_taken (due : u.due.recovery = true) (tests : u.state = .faultTest) (elapsed : u.monitor.test = 0) :
    eventNotice n .recovery u = some (.recover n) := if_pos ⟨due, tests, elapsed⟩

theorem eventNotice_recovery_of_not_due (idle : u.due.recovery = false) : eventNotice n .recovery u = none :=
  if_neg fun taken => Bool.false_ne_true (idle.symm.trans taken.1)

/-- A string in FAULT_TEST offers a RECOVER notice where it recovers; one in OFF, FAULT_WAIT or FAULT_LATCHED offers none. -/
theorem monitorNotice_left (left : u.state = .off ∨ u.state.faulted = true) (idle : u.due = .none) : monitorNotice tb n x flag stamp u =
    if u.state = .faultTest ∧ conditionPresent (tb.strings.get n) (updateRuns (tb.strings.get n) x flag u.monitor) = none ∧ u.monitor.test ≤ 1
    then some (.recover n) else none := by
  by_cases tests : u.state = .faultTest
  · rw [monitorNotice, show monitorEvent u.state = .recovery by rw [tests]; rfl]
    cases present : conditionPresent (tb.strings.get n) (updateRuns (tb.strings.get n) x flag u.monitor) with
    | some cause =>
      rw [monitorSample_test_fails tests present, if_neg (by simp)]
      exact eventNotice_recovery_of_not_due (congrArg Due.recovery idle)
    | none =>
      rw [monitorSample_test tests present]
      by_cases ends : u.monitor.test ≤ 1
      · rw [if_pos ⟨tests, rfl, ends⟩]
        exact eventNotice_recovery_taken (decide_eq_true ends) tests (by show u.monitor.test - 1 = 0; omega)
      · rw [if_neg fun all => ends all.2.2]
        exact eventNotice_recovery_of_not_due (decide_eq_false ends)
  · rw [if_neg fun all => tests all.1, monitorNotice]
    cases state : u.state with
    | off => rw [monitorSample_off state]; exact eventNotice_faultEntry_discarded (.inl state)
    | faultLatched => rw [monitorSample_latched state]; exact eventNotice_faultEntry_discarded (.inr (by show u.state.faulted = true; rw [state]; rfl))
    | faultWait => rfl
    | faultTest => exact absurd state tests
    | idle | attack | sounding | damped => exact absurd (by rw [state]; simp [StringState.active]) (not_active_of_left left)

end

end Sys2Proof.Machine
end

section
/-! The work of a frame on a string that is quiet, that attacks, or whose blocks take no sample (O42). -/

namespace Sys2Proof.Machine

section
variable {tb : Tables} {n : StringNo} {y : Int} {stamp : Index} {u : StringUnit}

theorem trackerSample_stopped (stopped : u.tracker.run = .stopped) : trackerSample tb n y stamp u = u := by
  simp only [trackerSample, stopped]

theorem StringUnit.settleOwn_idle (idle : u.due = .none) (tb : Tables) (n : StringNo) : u.settleOwn tb n = u :=
  settleOwn_of_not_due (by rw [idle]) tb n

/-- A string whose envelope unit leaves nothing due and whose tracker is stopped. -/
theorem stringWork_untracked {v : StringUnit} (sampled : envelopeSample (tb.strings.get n) y stamp u = v) (idle : v.due = .none)
    (stopped : v.tracker.run = .stopped) : stringWork tb n y stamp u = v := by
  rw [stringWork, sampled, StringUnit.settleOwn_idle idle, trackerSample_stopped stopped, StringUnit.settleOwn_idle idle]

/-- A string in OFF or a fault state whose tracker is stopped takes no sample (R15, R39). -/
theorem stringWork_left (left : u.state = .off ∨ u.state.faulted = true) (idle : u.due = .none) (stopped : u.tracker.run = .stopped) :
    stringWork tb n y stamp u = u :=
  stringWork_untracked (envelopeSample_silent left) idle stopped

/-- A quiet IDLE string has its level updated (R16, R21). -/
theorem stringWork_quiet (state : u.state = .idle) (idle : u.due = .none) (stopped : u.tracker.run = .stopped)
    (below : nextLevel (tb.strings.get n).decayShift u.env.level y < (tb.strings.get n).attach) :
    stringWork tb n y stamp u = { u with env := { u.env with level := nextLevel (tb.strings.get n).decayShift u.env.level y } } :=
  stringWork_untracked ((envelopeSample_idle state).trans (if_neg (by omega))) idle stopped

/-! ### The first sample of a restarted tracker -/

/-- The first sample of a fresh tracker counts no crossing, with its detector DISARMED (R38, R44). -/
theorem trackSample_fresh (r : StringRecord) (level : Nat) (y : Int) :
    (trackSample r level y (.fresh .running)).2 = .quiet ∧ (trackSample r level y (.fresh .running)).1.run = .running ∧
      (trackSample r level y (.fresh .running)).1.samples = 1 := by
  have filtered : (filterSample r y (.fresh .running)).detector = .disarmed ∧ (filterSample r y (.fresh .running)).ref = none ∧
      (filterSample r y (.fresh .running)).run = .running ∧ (filterSample r y (.fresh .running)).samples = 1 := by
    rcases filterSample_cases r y (.fresh .running) with ⟨-, e⟩ | ⟨-, e⟩ <;> rw [e] <;> exact ⟨rfl, rfl, rfl, rfl⟩
  generalize e : filterSample r y (.fresh .running) = t at filtered
  obtain ⟨disarmed, ref, run, samples⟩ := filtered
  have detected : (detect (hysteresis r.hysteresisShift level) t).2 = false ∧ (detect (hysteresis r.hysteresisShift level) t).1.ref = none ∧
      (detect (hysteresis r.hysteresisShift level) t).1.run = .running ∧ (detect (hysteresis r.hysteresisShift level) t).1.samples = 1 := by
    rw [detect_disarmed disarmed]
    split <;> exact ⟨rfl, ref, run, samples⟩
  obtain ⟨uncounted, ref, run, samples⟩ := detected
  rw [trackSample_uncounted (by rw [e]; exact uncounted), e, countStale_of_none ref]
  exact ⟨rfl, run, samples⟩

/-- An IDLE string whose level reaches A: the attack, and the restarted tracker's first sample (R21, R22). -/
theorem stringWork_attacks (state : u.state = .idle) (idle : u.due = .none)
    (reached : (tb.strings.get n).attach ≤ nextLevel (tb.strings.get n).decayShift u.env.level y) :
    ∃ t : Tracker, t.run = .running ∧ t.samples = 1 ∧ stringWork tb n y stamp u =
      { beginAttack (tb.strings.get n) (nextLevel (tb.strings.get n).decayShift u.env.level y) u with tracker := t } := by
  have sampled : envelopeSample (tb.strings.get n) y stamp u =
      beginAttack (tb.strings.get n) (nextLevel (tb.strings.get n).decayShift u.env.level y) u :=
    (envelopeSample_idle state).trans (if_pos reached)
  generalize attacked : beginAttack (tb.strings.get n) (nextLevel (tb.strings.get n).decayShift u.env.level y) u = v at sampled ⊢
  have calm : v.due = .none := by rw [← attacked, beginAttack, idle]; rfl
  have fresh : v.tracker = .fresh .running := by rw [← attacked]; rfl
  obtain ⟨quiet, run, samples⟩ := trackSample_fresh (tb.strings.get n) v.env.level y
  refine ⟨_, run, samples, ?_⟩
  have left : ({ v with tracker := (trackSample (tb.strings.get n) v.env.level y (.fresh .running)).1 } : StringUnit).due = .none := calm
  rw [stringWork, sampled, StringUnit.settleOwn_idle calm, trackerSample_running (by rw [fresh]; rfl), fresh, quiet]
  exact StringUnit.settleOwn_idle left tb n

end

end Sys2Proof.Machine
end

section
/-! The work of one accepted frame in the canonical order (O42). -/

namespace Sys2Proof.Machine

namespace SameCore
variable {s t : State} (h : SameCore s t)
include h

theorem unit (n : StringNo) : t.unit n = s.unit n := congrArg (·.get n) h.units

theorem frameRecord (raw y : Six Int) (stamp : Index) : t.frameRecord raw y stamp = s.frameRecord raw y stamp := by
  simp only [State.frameRecord, State.record, h.tables, h.unit]

theorem cancel (raw : Six Int) : Machine.cancel t.tables.matrix t.states raw = Machine.cancel s.tables.matrix s.states raw := by
  simp only [State.states, h.tables, h.unit]

theorem noticeView : t.noticeView = s.noticeView := by
  simp only [State.noticeView, h.tables, h.tx, h.noticesLost]

end SameCore

section
variable {bits : FrameBits} {s : State}

/-- The frame's cancelled samples (R4 to R7). -/
def State.cancelledSamples (s : State) (bits : FrameBits) : Six Int := cancel s.tables.matrix s.states (Six.ofFn (frameSample bits))

/-- The record an accepted frame offers to the store (R8 to R11). -/
def State.sentRecord (s : State) (bits : FrameBits) : FrameRecord :=
  s.frameRecord (Six.ofFn (frameSample bits)) (s.cancelledSamples bits) (s.index + 1)

/-- What an accepted frame makes of a string. -/
def State.framedUnit (s : State) (bits : FrameBits) (n : StringNo) : StringUnit :=
  Machine.framedUnit s.tables (Six.ofFn (frameSample bits)) (s.cancelledSamples bits) (Six.ofFn (frameFlag bits)) (s.index + 1) n (s.unit n)

/-- The notice of a string's fault monitor at an accepted frame. -/
def State.framedNotice (s : State) (bits : FrameBits) (n : StringNo) : Option Notice :=
  Machine.framedNotice s.tables (Six.ofFn (frameSample bits)) (s.cancelledSamples bits) (Six.ofFn (frameFlag bits)) (s.index + 1) n (s.unit n)

/-- The part after the blocks' work on an accepted frame. -/
def State.afterFrame (s : State) (bits : FrameBits) : State :=
  ((s.beforeBlocks bits).offerRecord (s.sentRecord bits)).framed (Six.ofFn (frameSample bits)) (s.cancelledSamples bits)
    (Six.ofFn (frameFlag bits)) (s.index + 1)

theorem State.afterFrame_unit (n : StringNo) : (s.afterFrame bits).unit n = s.framedUnit bits n := by
  have core := SameCore.beforeBlocks bits s
  have unit : ((s.beforeBlocks bits).offerRecord (s.sentRecord bits)).unit n = s.unit n := by
    rw [State.unit, State.offerRecord_units]; exact core.unit n
  rw [State.afterFrame, State.framed_unit, unit, State.offerRecord_tables, core.tables, State.framedUnit]

theorem State.afterFrame_store : (s.afterFrame bits).store = (s.store.accept (s.sentRecord bits)).1 := by
  rw [State.afterFrame, State.framed_store, State.offerRecord_store, (SameCore.beforeBlocks bits s).store]

theorem State.afterFrame_dropSlips : (s.afterFrame bits).link.dropSlips =
    if (s.store.accept (s.sentRecord bits)).2 = none then s.link.dropSlips else bump s.link.dropSlips := by
  have core := SameCore.beforeBlocks bits s
  rw [State.afterFrame, State.framed_dropSlips, (State.offerRecord_slips _ _).1, core.store, core.dropSlips]

theorem State.afterFrame_notices : (s.afterFrame bits).noticeView =
    ((((s.store.accept (s.sentRecord bits)).2.map (Notice.slip .drop)).toList ++
      StringNo.all.filterMap (s.framedNotice bits)).foldl State.offerNotice s).noticeView := by
  have core := SameCore.beforeBlocks bits s
  rw [State.afterFrame, State.framed_noticeView _ core.noticeView core.store]
  simp only [core.unit, core.tables]
  rfl

theorem State.pickupFrame_afterFrame (sync : s.pickup.receiver.state = .sync) (few : s.pickup.receiver.bad ≤ 2)
    (good : goodSync bits = true) (free : s.inProcess = none) (idle : s.NothingDue) : s.pickupFrame (some bits) {} = s.afterFrame bits := by
  have core := SameCore.beforeBlocks bits s
  have calm : (s.beforeBlocks bits).NothingDue := fun n => (congrArg StringUnit.due (core.unit n)).trans (idle n)
  rw [State.pickupFrame_canonical sync few good free idle, State.runFrame_canonical calm, core.cancel, core.frameRecord]
  rfl

end

/-! ### A string's part of the frame -/

section
variable {bits : FrameBits} {s : State} {n : StringNo}

/-- The runs of a string's fault monitor after the frame (R132). -/
def State.frameRuns (s : State) (bits : FrameBits) (n : StringNo) : Monitor :=
  updateRuns (s.record n) ((Six.ofFn (frameSample bits)).get n) (frameFlag bits n) (s.unit n).monitor

/-- A string's part of the frame but its fault monitor. -/
def State.stringWork (s : State) (bits : FrameBits) (n : StringNo) : StringUnit :=
  Machine.stringWork s.tables n ((s.cancelledSamples bits).get n) (s.index + 1) (s.unit n)

theorem State.framedUnit_eq : s.framedUnit bits n = monitorWork s.tables n ((Six.ofFn (frameSample bits)).get n) (frameFlag bits n) (s.index + 1)
    (s.stringWork bits n) := by
  rw [State.framedUnit, Machine.framedUnit, Six.get_ofFn (frameFlag bits)]
  rfl

theorem State.framedNotice_eq : s.framedNotice bits n = monitorNotice s.tables n ((Six.ofFn (frameSample bits)).get n) (frameFlag bits n)
    (s.index + 1) (s.stringWork bits n) := by
  rw [State.framedNotice, Machine.framedNotice, Six.get_ofFn (frameFlag bits)]
  rfl

theorem State.runs_stringWork :
    updateRuns (s.record n) ((Six.ofFn (frameSample bits)).get n) (frameFlag bits n) (s.stringWork bits n).monitor = s.frameRuns bits n := by
  rw [State.frameRuns, State.stringWork, (OwnWork.stringWork ..).monitor]

theorem State.stringWork_active (active : (s.unit n).state.active) : (s.stringWork bits n).state.active :=
  (OwnWork.stringWork ..).active_iff.mpr active

theorem State.stringWork_state (left : (s.unit n).state = .off ∨ (s.unit n).state.faulted = true) :
    (s.stringWork bits n).state = (s.unit n).state :=
  (OwnWork.stringWork ..).state_of_not_active (not_active_of_left left)

section
variable (idle : (s.unit n).due = .none)
include idle

theorem State.stringWork_due : (s.stringWork bits n).due = .none := Machine.stringWork_due idle ..

theorem State.framedUnit_active (active : (s.unit n).state.active) (absent : conditionPresent (s.record n) (s.frameRuns bits n) = none) :
    s.framedUnit bits n = { s.stringWork bits n with monitor := s.frameRuns bits n } := by
  rw [State.framedUnit_eq, monitorWork_active (State.stringWork_due idle) _ (s.stringWork_active active)]
  · exact congrArg (fun m => ({ s.stringWork bits n with monitor := m } : StringUnit)) State.runs_stringWork
  · exact (congrArg (conditionPresent (s.record n)) State.runs_stringWork).trans absent

theorem State.framedUnit_active_fault {cause : Cause} (active : (s.unit n).state.active)
    (present : conditionPresent (s.record n) (s.frameRuns bits n) = some cause) : s.framedUnit bits n =
      enterFault (s.record n) cause (s.index + 1) { s.stringWork bits n with monitor := s.frameRuns bits n } := by
  rw [State.framedUnit_eq, monitorWork_active_fault (State.stringWork_due idle) (s.stringWork_active active)
    ((congrArg (conditionPresent (s.record n)) State.runs_stringWork).trans present)]
  exact congrArg (fun m => enterFault (s.record n) cause (s.index + 1) { s.stringWork bits n with monitor := m }) State.runs_stringWork

/-- A string in OFF or a fault state has its fault monitor's work alone. -/
theorem State.framedUnit_left (left : (s.unit n).state = .off ∨ (s.unit n).state.faulted = true) (stopped : (s.unit n).tracker.run = .stopped) :
    s.framedUnit bits n =
      monitorWork s.tables n ((Six.ofFn (frameSample bits)).get n) (frameFlag bits n) (s.index + 1) (s.unit n) := by
  rw [State.framedUnit_eq, State.stringWork, stringWork_left left idle stopped]

theorem State.framedUnit_due : (s.framedUnit bits n).due = .none := by
  rw [State.framedUnit_eq]
  exact monitorWork_due (State.stringWork_due idle)

theorem State.framedNotice_left (left : (s.unit n).state = .off ∨ (s.unit n).state.faulted = true) : s.framedNotice bits n =
    if (s.unit n).state = .faultTest ∧ conditionPresent (s.record n) (s.frameRuns bits n) = none ∧ (s.unit n).monitor.test ≤ 1
    then some (.recover n) else none := by
  have state := s.stringWork_state (bits := bits) left
  have monitor : (s.stringWork bits n).monitor = (s.unit n).monitor := (OwnWork.stringWork ..).monitor
  rw [State.framedNotice_eq, monitorNotice_left (by rw [state]; exact left) (State.stringWork_due idle), state, monitor]
  rfl

end

theorem State.framedNotice_active (active : (s.unit n).state.active) :
    s.framedNotice bits n = (conditionPresent (s.record n) (s.frameRuns bits n)).map (Notice.fault n) := by
  rw [State.framedNotice_eq, monitorNotice_active (s.stringWork_active active)]
  exact congrArg (fun m => (conditionPresent (s.record n) m).map (Notice.fault n)) State.runs_stringWork

end

/-- Settles O42: the frame as a whole, then each string by its state. -/
theorem canonicalFrameWork : Obligations.CanonicalFrameWork := by
  intro bits s sync few good free idle raw y sent slip noticed offered
  have notices : StringNo.all.filterMap (s.framedNotice bits) = StringNo.all.filterMap noticed := List.filterMap_congr fun n _ => by
    show _ = if _ then _ else _
    rcases active_or_left (s.unit n).state with active | left
    · rw [State.framedNotice_active active]
      exact (if_pos active).symm
    · rw [State.framedNotice_left (idle n) left]
      exact (if_neg (not_active_of_left left)).symm
  have view : (s.afterFrame bits).noticeView = offered.noticeView := by
    rw [State.afterFrame_notices, notices]
    rfl
  simp only [State.noticeView, Prod.mk.injEq] at view
  obtain ⟨-, queue, lost⟩ := view
  refine ⟨s.afterFrame bits, ?_, rfl, fun n => ?_, State.afterFrame_store, State.afterFrame_dropSlips, queue, lost, fun n state stopped => ?_,
    fun n => ?_⟩
  · rw [exec_pickupForwardFrame, State.pickupFrame_afterFrame sync few good free idle]
  · rw [State.afterFrame_unit]
    exact State.framedUnit_due (idle n)
  · intro u r level m absent
    have unit := (State.afterFrame_unit (s := s) (bits := bits) n).trans (State.framedUnit_active (idle n) (.inl state) absent)
    refine ⟨fun below => ?_, fun reached => ?_⟩
    · have work : s.stringWork bits n = { u with env := { u.env with level := level } } := stringWork_quiet state (idle n) stopped below
      rw [unit, work]
      rfl
    · obtain ⟨t, running, first, work⟩ := stringWork_attacks (tb := s.tables) (n := n) (y := y.get n) (stamp := s.index + 1) state (idle n) reached
      have work : s.stringWork bits n = { beginAttack r level u with tracker := t } := work
      rw [unit, work]
      exact ⟨rfl, rfl, rfl, running, first, rfl, rfl, rfl⟩
  · rw [State.afterFrame_unit]
    intro u r index m
    refine ⟨fun active => ⟨State.framedUnit_active (idle n) active, fun cause => State.framedUnit_active_fault (idle n) active⟩, fun stopped => ?_⟩
    have left : u.state = .off ∨ u.state.faulted = true → s.framedUnit bits n =
        monitorWork s.tables n ((Six.ofFn (frameSample bits)).get n) (frameFlag bits n) (s.index + 1) u :=
      fun left => State.framedUnit_left (idle n) left stopped
    refine ⟨fun off => ?_, fun latched => ?_, fun waits running => ?_, fun waits ends => ?_, fun tests absent running => ?_,
      fun tests absent ends => ?_, fun cause tests present => ?_⟩
    · rw [left (.inl off)]
      exact monitorWork_off (idle n) off
    · rw [left (.inr (by rw [latched]; rfl))]
      exact monitorWork_latched (idle n) latched
    · rw [left (.inr (by rw [waits]; rfl))]
      exact monitorWork_waits (idle n) waits running
    · rw [left (.inr (by rw [waits]; rfl))]
      exact monitorWork_wait_ends (idle n) waits ends
    · rw [left (.inr (by rw [tests]; rfl))]
      exact monitorWork_tests (idle n) tests absent running
    · rw [left (.inr (by rw [tests]; rfl))]
      exact monitorWork_recovers (idle n) tests absent ends
    · rw [left (.inr (by rw [tests]; rfl))]
      exact monitorWork_test_fails (idle n) tests present

end Sys2Proof.Machine
end
